-- ==== Sys2Proof/Word.lean ====
section
/-! DEFINITION. The words, the symbol and the closed sets of names of the spec (00_scope R6, R7; 30_encoding
R51, R52, R55, R60). Types only: what is computed with them stands in Decode.lean and under Machine/. -/

namespace Sys2Proof

/-- An operand or result register, a duration field, a frequency: `W_REG` = `W_DUR` = 32 bits (R6, R14, R51). -/
abbrev Word := BitVec 32

/-- One byte of a name or of `ERR` (R15, R16). -/
abbrev Byte := BitVec 8

/-- A duty cycle in percent as `CDUTY` holds it: 7 bits (R19). -/
abbrev Duty := BitVec 7

/-- A symbol: one mark duration and the space duration that follows it, in microseconds (R51). Every pair is legal. -/
structure Symbol where
  mark : Word
  space : Word
deriving DecidableEq, Repr, Inhabited

/-- The eighteen protocol variants, in the order of their codes 0 to 17 (R55). -/
inductive Proto where
  | nec | necExt | sony | rc5 | rc6 | samsung | panasonic | jvc | lg
  | mitsubishi | sharp | dish | aiwa | denon | kaseikyo | whynter | coolix | generic
deriving DecidableEq, Repr, Inhabited

/-- The three Sony variants that field `var` selects: 12, 15 and 20 bits (R52, R92). -/
inductive SonyVar where
  | v12 | v15 | v20
deriving DecidableEq, Repr, Inhabited

/-- The seven result codes (R139). -/
inductive ResultCode where
  | ok | notInitialized | invalidArgument | bufferTooSmall | unsupportedProtocol | hwFailure | notFound
deriving DecidableEq, Repr, Inhabited

/-- The three kinds of illegal ENCODE, SEND and SENDN words whose rejection the spec describes twice, with and without
`RES0 <- 0` (R64 rows 1, 4 and 6 against R81; log 12). -/
inductive IllegalFrame where
  | reservedBits | noSuchProtocol | sonyVar3
deriving DecidableEq, Repr, Inhabited

/-- An instruction word as it is presented: a 32-bit command word `CW` at the command port (R52), or a 34-bit
micro-operation word `UW` at the carrier capability interface (R60). -/
inductive CodeWord where
  | cw (w : BitVec 32)
  | uw (w : BitVec 34)
deriving DecidableEq, Repr, Inhabited

end Sys2Proof
end

