-- ==== Sys2Proof/Syntax.lean ====
section
/-! DEFINITION. The instructions: one constructor for each of the 86 rows of spec/opcode_table.json. A constructor
carries the fields of the word that the operation READS (30_encoding R53) and that the row does not fix: `rpt` for
every protocol but NEC (whose rows fix it), because `has_repeat` is OPEN for them (40_registry R74, 41_encoder R91;
log 13), `tgl` for RC5 and RC6, `auto` for SEND and SENDN of these two. -/

namespace Sys2Proof

/-- The operations at the command port (83 rows of format `CW`) and the micro-operations (3 rows of format `UW`). -/
inductive Instr where
  /-- INIT (R119): configure the carrier hardware. -/
  | init
  /-- GETINFO (R70): look up the registry record of a protocol code (any of 0 to 31). -/
  | getinfo (proto : BitVec 5)
  /-- FROMNAME (R71): protocol code of a name. -/
  | fromname
  /-- ENCODE.NEC (R89). -/
  | encodeNec
  /-- ENCODE.NEC.RPT (R91). -/
  | encodeNecRpt
  /-- ENCODE.NEC_EXT (R90). -/
  | encodeNecExt (rpt : Bool)
  /-- ENCODE.SONY.12 (R92). -/
  | encodeSony12 (rpt : Bool)
  /-- ENCODE.SONY.15 (R92). -/
  | encodeSony15 (rpt : Bool)
  /-- ENCODE.SONY.20 (R92). -/
  | encodeSony20 (rpt : Bool)
  /-- ENCODE.SONY.VAR3 (R64). -/
  | encodeSonyVar3
  /-- ENCODE.RC5 (R113). -/
  | encodeRc5 (tgl : Bool) (rpt : Bool)
  /-- ENCODE.RC5.X (R114). -/
  | encodeRc5X (tgl : Bool) (rpt : Bool)
  /-- ENCODE.RC6 (R115). -/
  | encodeRc6 (tgl : Bool) (rpt : Bool)
  /-- ENCODE.SAMSUNG (R98). -/
  | encodeSamsung (rpt : Bool)
  /-- ENCODE.PANASONIC (R94). -/
  | encodePanasonic (rpt : Bool)
  /-- ENCODE.JVC (R99). -/
  | encodeJvc (rpt : Bool)
  /-- ENCODE.LG (R100). -/
  | encodeLg (rpt : Bool)
  /-- ENCODE.MITSUBISHI (R101). -/
  | encodeMitsubishi (rpt : Bool)
  /-- ENCODE.SHARP (R93). -/
  | encodeSharp (rpt : Bool)
  /-- ENCODE.DISH (R102). -/
  | encodeDish (rpt : Bool)
  /-- ENCODE.AIWA (R103). -/
  | encodeAiwa (rpt : Bool)
  /-- ENCODE.DENON (R104). -/
  | encodeDenon (rpt : Bool)
  /-- ENCODE.KASEIKYO (R95). -/
  | encodeKaseikyo (rpt : Bool)
  /-- ENCODE.WHYNTER (R105). -/
  | encodeWhynter (rpt : Bool)
  /-- ENCODE.COOLIX (R96). -/
  | encodeCoolix (rpt : Bool)
  /-- ENCODE.GENERIC (R106). -/
  | encodeGeneric (rpt : Bool)
  /-- TRANSMIT (R120): realise `SYM[0 .. OPLEN-1]` on the pin. -/
  | transmit
  /-- SEND.NEC (R134). -/
  | sendNec
  /-- SEND.NEC.RPT (R134). -/
  | sendNecRpt
  /-- SEND.NEC_EXT (R134). -/
  | sendNecExt (rpt : Bool)
  /-- SEND.SONY.12 (R134). -/
  | sendSony12 (rpt : Bool)
  /-- SEND.SONY.15 (R134). -/
  | sendSony15 (rpt : Bool)
  /-- SEND.SONY.20 (R134). -/
  | sendSony20 (rpt : Bool)
  /-- SEND.SONY.VAR3 (R64). -/
  | sendSonyVar3
  /-- SEND.RC5 (R134). -/
  | sendRc5 (tgl : Bool) (auto : Bool) (rpt : Bool)
  /-- SEND.RC5.X (R134). -/
  | sendRc5X (tgl : Bool) (auto : Bool) (rpt : Bool)
  /-- SEND.RC6 (R134). -/
  | sendRc6 (tgl : Bool) (auto : Bool) (rpt : Bool)
  /-- SEND.SAMSUNG (R134). -/
  | sendSamsung (rpt : Bool)
  /-- SEND.PANASONIC (R134). -/
  | sendPanasonic (rpt : Bool)
  /-- SEND.JVC (R134). -/
  | sendJvc (rpt : Bool)
  /-- SEND.LG (R134). -/
  | sendLg (rpt : Bool)
  /-- SEND.MITSUBISHI (R134). -/
  | sendMitsubishi (rpt : Bool)
  /-- SEND.SHARP (R134). -/
  | sendSharp (rpt : Bool)
  /-- SEND.DISH (R134). -/
  | sendDish (rpt : Bool)
  /-- SEND.AIWA (R134). -/
  | sendAiwa (rpt : Bool)
  /-- SEND.DENON (R134). -/
  | sendDenon (rpt : Bool)
  /-- SEND.KASEIKYO (R134). -/
  | sendKaseikyo (rpt : Bool)
  /-- SEND.WHYNTER (R134). -/
  | sendWhynter (rpt : Bool)
  /-- SEND.COOLIX (R134). -/
  | sendCoolix (rpt : Bool)
  /-- SEND.GENERIC (R134). -/
  | sendGeneric (rpt : Bool)
  /-- RSTTGL.RC5 (R135). -/
  | rsttglRc5
  /-- RSTTGL.RC6 (R135). -/
  | rsttglRc6
  /-- SENDN.NEC (R136). -/
  | sendnNec
  /-- SENDN.NEC.RPT (R136). -/
  | sendnNecRpt
  /-- SENDN.NEC_EXT (R136). -/
  | sendnNecExt (rpt : Bool)
  /-- SENDN.SONY.12 (R136). -/
  | sendnSony12 (rpt : Bool)
  /-- SENDN.SONY.15 (R136). -/
  | sendnSony15 (rpt : Bool)
  /-- SENDN.SONY.20 (R136). -/
  | sendnSony20 (rpt : Bool)
  /-- SENDN.SONY.VAR3 (R64). -/
  | sendnSonyVar3
  /-- SENDN.RC5 (R136). -/
  | sendnRc5 (tgl : Bool) (auto : Bool) (rpt : Bool)
  /-- SENDN.RC5.X (R136). -/
  | sendnRc5X (tgl : Bool) (auto : Bool) (rpt : Bool)
  /-- SENDN.RC6 (R136). -/
  | sendnRc6 (tgl : Bool) (auto : Bool) (rpt : Bool)
  /-- SENDN.SAMSUNG (R136). -/
  | sendnSamsung (rpt : Bool)
  /-- SENDN.PANASONIC (R136). -/
  | sendnPanasonic (rpt : Bool)
  /-- SENDN.JVC (R136). -/
  | sendnJvc (rpt : Bool)
  /-- SENDN.LG (R136). -/
  | sendnLg (rpt : Bool)
  /-- SENDN.MITSUBISHI (R136). -/
  | sendnMitsubishi (rpt : Bool)
  /-- SENDN.SHARP (R136). -/
  | sendnSharp (rpt : Bool)
  /-- SENDN.DISH (R136). -/
  | sendnDish (rpt : Bool)
  /-- SENDN.AIWA (R136). -/
  | sendnAiwa (rpt : Bool)
  /-- SENDN.DENON (R136). -/
  | sendnDenon (rpt : Bool)
  /-- SENDN.KASEIKYO (R136). -/
  | sendnKaseikyo (rpt : Bool)
  /-- SENDN.WHYNTER (R136). -/
  | sendnWhynter (rpt : Bool)
  /-- SENDN.COOLIX (R136). -/
  | sendnCoolix (rpt : Bool)
  /-- SENDN.GENERIC (R136). -/
  | sendnGeneric (rpt : Bool)
  /-- ILLEGAL.OP0 (R64). -/
  | illegalOp0
  /-- ILLEGAL.OP9 (R64). -/
  | illegalOp9
  /-- ILLEGAL.OP10 (R64). -/
  | illegalOp10
  /-- ILLEGAL.OP11 (R64). -/
  | illegalOp11
  /-- ILLEGAL.OP12 (R64). -/
  | illegalOp12
  /-- ILLEGAL.OP13 (R64). -/
  | illegalOp13
  /-- ILLEGAL.OP14 (R64). -/
  | illegalOp14
  /-- ILLEGAL.OP15 (R64). -/
  | illegalOp15
  /-- CEN (R126): enable the carrier. -/
  | cen (duty : Duty)
  /-- CDIS (R127): disable the carrier. -/
  | cdis
  /-- DLY (R128): let time pass. -/
  | dly (us : Word)
deriving DecidableEq, Repr

end Sys2Proof
end

