-- ==== Sys2Proof/WellFormed.lean ====
section
/-! DEFINITION. Which instructions are well formed. Every command word that decodes is well formed: a field that an
operation reads may hold any value, and what it does with each is its own rule. Only the operand of CEN has a stated
range (43_carrier R126). -/

namespace Sys2Proof

/-- R126: the operand of CEN is a duty cycle in percent, 0 to 100. -/
def Instr.wellFormed : Instr → Bool
  | .cen duty => decide (duty.toNat ≤ 100)
  | _ => true

/-- The instruction is well formed. -/
abbrev WellFormed (i : Instr) : Prop := i.wellFormed = true

end Sys2Proof
end

