-- ==== Sys2Proof/Decode.lean ====
section
/-! DEFINITION. Decoding and encoding (30_encoding R50 to R55, R60, R64). `decode` is total: a word that is no
operation is rejected by name (`Illegal`), and Machine/Illegal.lean says what each such word does. The encoder
follows it. `Instr.row` transcribes the row of spec/opcode_table.json that each constructor stands for. -/

namespace Sys2Proof

/-- The words that decode to no row, by name (R64). The first three are operations of their own, which raise a
result; the last two are no micro-operation. -/
inductive Illegal where
  /-- `CW[16:0] != 0` in a word with one of the operation codes 1 to 8 (R64 row 1). -/
  | reservedBits (op : BitVec 4)
  /-- ENCODE, SEND or SENDN with `proto >= 18` (R64 row 4). -/
  | noSuchProtocol (op : BitVec 4) (proto : BitVec 5)
  /-- RSTTGL with `proto` not RC5 and not RC6 (R64 row 7). -/
  | noToggleBit (proto : BitVec 5)
  /-- `UW.uop` = 0 (R60, R64 row 8). -/
  | microNone
  /-- A CEN with `arg[31:7] != 0` or a CDIS with `arg != 0` (R60: "rest 0", "0"). -/
  | microOperand (uop : BitVec 2)
deriving DecidableEq, Repr

/-! ## Fields of the command word (R52) -/

/-- `CW[31:28]`: the operation code. -/
def cwOp (w : BitVec 32) : BitVec 4 := w.extractLsb' 28 4
/-- `CW[27:23]`: the protocol code. -/
def cwProto (w : BitVec 32) : BitVec 5 := w.extractLsb' 23 5
/-- `CW[22:21]`: the Sony variant. -/
def cwVar (w : BitVec 32) : BitVec 2 := w.extractLsb' 21 2
/-- `CW[20]`: the explicit toggle bit. -/
def cwTgl (w : BitVec 32) : Bool := w.getLsbD 20
/-- `CW[19]`: take the toggle bit from `TOGGLE[proto]`. -/
def cwAuto (w : BitVec 32) : Bool := w.getLsbD 19
/-- `CW[18]`: the repeat frame. -/
def cwRpt (w : BitVec 32) : Bool := w.getLsbD 18
/-- `CW[17]`: extended RC5. -/
def cwExt (w : BitVec 32) : Bool := w.getLsbD 17
/-- `CW[16:0]`: reserved, must be 0. -/
def cwReserved (w : BitVec 32) : BitVec 17 := w.extractLsb' 0 17

/-- The protocol of a code (R55); codes 18 to 31 are outside the valid range. -/
def protoOfCode (c : BitVec 5) : Option Proto :=
  match c.toNat with
  | 0 => some .nec
  | 1 => some .necExt
  | 2 => some .sony
  | 3 => some .rc5
  | 4 => some .rc6
  | 5 => some .samsung
  | 6 => some .panasonic
  | 7 => some .jvc
  | 8 => some .lg
  | 9 => some .mitsubishi
  | 10 => some .sharp
  | 11 => some .dish
  | 12 => some .aiwa
  | 13 => some .denon
  | 14 => some .kaseikyo
  | 15 => some .whynter
  | 16 => some .coolix
  | 17 => some .generic
  | _ => none

/-- The code of a protocol (R55). -/
def protoCode : Proto → BitVec 5
  | .nec => 0#5
  | .necExt => 1#5
  | .sony => 2#5
  | .rc5 => 3#5
  | .rc6 => 4#5
  | .samsung => 5#5
  | .panasonic => 6#5
  | .jvc => 7#5
  | .lg => 8#5
  | .mitsubishi => 9#5
  | .sharp => 10#5
  | .dish => 11#5
  | .aiwa => 12#5
  | .denon => 13#5
  | .kaseikyo => 14#5
  | .whynter => 15#5
  | .coolix => 16#5
  | .generic => 17#5

/-- The Sony variant that field `var` selects; 3 is reserved (R52). -/
def sonyVarOfBits (v : BitVec 2) : Option SonyVar :=
  match v.toNat with
  | 0 => some .v12
  | 1 => some .v15
  | 2 => some .v20
  | _ => none

/-! ## Decoding -/

/-- ENCODE of a protocol: the row that `proto`, `var`, `rpt` and `ext` select, with the fields it reads (R53, R54). -/
def encodeInstr (p : Proto) (v : SonyVar) (tgl rpt ext : Bool) : Instr :=
  match p with
  | .nec => if rpt then .encodeNecRpt else .encodeNec
  | .sony =>
    match v with
    | .v12 => .encodeSony12 rpt
    | .v15 => .encodeSony15 rpt
    | .v20 => .encodeSony20 rpt
  | .rc5 => if ext then .encodeRc5X tgl rpt else .encodeRc5 tgl rpt
  | .rc6 => .encodeRc6 tgl rpt
  | .necExt => .encodeNecExt rpt
  | .samsung => .encodeSamsung rpt
  | .panasonic => .encodePanasonic rpt
  | .jvc => .encodeJvc rpt
  | .lg => .encodeLg rpt
  | .mitsubishi => .encodeMitsubishi rpt
  | .sharp => .encodeSharp rpt
  | .dish => .encodeDish rpt
  | .aiwa => .encodeAiwa rpt
  | .denon => .encodeDenon rpt
  | .kaseikyo => .encodeKaseikyo rpt
  | .whynter => .encodeWhynter rpt
  | .coolix => .encodeCoolix rpt
  | .generic => .encodeGeneric rpt

/-- SEND of a protocol: the row that `proto`, `var`, `rpt` and `ext` select, with the fields it reads (R53, R54). -/
def sendInstr (p : Proto) (v : SonyVar) (tgl auto rpt ext : Bool) : Instr :=
  match p with
  | .nec => if rpt then .sendNecRpt else .sendNec
  | .sony =>
    match v with
    | .v12 => .sendSony12 rpt
    | .v15 => .sendSony15 rpt
    | .v20 => .sendSony20 rpt
  | .rc5 => if ext then .sendRc5X tgl auto rpt else .sendRc5 tgl auto rpt
  | .rc6 => .sendRc6 tgl auto rpt
  | .necExt => .sendNecExt rpt
  | .samsung => .sendSamsung rpt
  | .panasonic => .sendPanasonic rpt
  | .jvc => .sendJvc rpt
  | .lg => .sendLg rpt
  | .mitsubishi => .sendMitsubishi rpt
  | .sharp => .sendSharp rpt
  | .dish => .sendDish rpt
  | .aiwa => .sendAiwa rpt
  | .denon => .sendDenon rpt
  | .kaseikyo => .sendKaseikyo rpt
  | .whynter => .sendWhynter rpt
  | .coolix => .sendCoolix rpt
  | .generic => .sendGeneric rpt

/-- SENDN of a protocol: the row that `proto`, `var`, `rpt` and `ext` select, with the fields it reads (R53, R54). -/
def sendnInstr (p : Proto) (v : SonyVar) (tgl auto rpt ext : Bool) : Instr :=
  match p with
  | .nec => if rpt then .sendnNecRpt else .sendnNec
  | .sony =>
    match v with
    | .v12 => .sendnSony12 rpt
    | .v15 => .sendnSony15 rpt
    | .v20 => .sendnSony20 rpt
  | .rc5 => if ext then .sendnRc5X tgl auto rpt else .sendnRc5 tgl auto rpt
  | .rc6 => .sendnRc6 tgl auto rpt
  | .necExt => .sendnNecExt rpt
  | .samsung => .sendnSamsung rpt
  | .panasonic => .sendnPanasonic rpt
  | .jvc => .sendnJvc rpt
  | .lg => .sendnLg rpt
  | .mitsubishi => .sendnMitsubishi rpt
  | .sharp => .sendnSharp rpt
  | .dish => .sendnDish rpt
  | .aiwa => .sendnAiwa rpt
  | .denon => .sendnDenon rpt
  | .kaseikyo => .sendnKaseikyo rpt
  | .whynter => .sendnWhynter rpt
  | .coolix => .sendnCoolix rpt
  | .generic => .sendnGeneric rpt

/-- Decoding of ENCODE, SEND and SENDN. A reserved Sony variant is its own row whatever the rest of the word holds;
then the reserved bits are checked, then the protocol code (R64, 60_exceptions R141). -/
def decodeFrameOp (w : BitVec 32) (var3 : Instr) (mk : Proto → SonyVar → Instr) : Except Illegal Instr :=
  match protoOfCode (cwProto w), sonyVarOfBits (cwVar w) with
  | some .sony, none => .ok var3
  | some p, v =>
    if cwReserved w = 0 then .ok (mk p (v.getD .v12)) else .error (.reservedBits (cwOp w))
  | none, _ =>
    if cwReserved w = 0 then .error (.noSuchProtocol (cwOp w) (cwProto w)) else .error (.reservedBits (cwOp w))

/-- Decoding of RSTTGL (R135, R64 row 7). -/
def decodeRsttgl (w : BitVec 32) : Except Illegal Instr :=
  match protoOfCode (cwProto w) with
  | some .rc5 => .ok .rsttglRc5
  | some .rc6 => .ok .rsttglRc6
  | _ => .error (.noToggleBit (cwProto w))

/-- The reserved bits are checked first (R64 row 1). -/
def checkReserved (w : BitVec 32) (r : Except Illegal Instr) : Except Illegal Instr :=
  if cwReserved w = 0 then r else .error (.reservedBits (cwOp w))

/-- Decoding of a command word (R52 to R55, R64). -/
def decodeCommand (w : BitVec 32) : Except Illegal Instr :=
  match (cwOp w).toNat with
  | 1 => checkReserved w (.ok .init)
  | 2 => checkReserved w (.ok (.getinfo (cwProto w)))
  | 3 => checkReserved w (.ok .fromname)
  | 4 => decodeFrameOp w .encodeSonyVar3 (fun p v => encodeInstr p v (cwTgl w) (cwRpt w) (cwExt w))
  | 5 => checkReserved w (.ok .transmit)
  | 6 => decodeFrameOp w .sendSonyVar3 (fun p v => sendInstr p v (cwTgl w) (cwAuto w) (cwRpt w) (cwExt w))
  | 7 => checkReserved w (decodeRsttgl w)
  | 8 => decodeFrameOp w .sendnSonyVar3 (fun p v => sendnInstr p v (cwTgl w) (cwAuto w) (cwRpt w) (cwExt w))
  | 9 => .ok .illegalOp9
  | 10 => .ok .illegalOp10
  | 11 => .ok .illegalOp11
  | 12 => .ok .illegalOp12
  | 13 => .ok .illegalOp13
  | 14 => .ok .illegalOp14
  | 15 => .ok .illegalOp15
  | _ => .ok .illegalOp0

/-- `UW[33:32]`: the micro-operation (R60). -/
def uwUop (u : BitVec 34) : BitVec 2 := u.extractLsb' 32 2
/-- `UW[31:0]`: the argument (R60). -/
def uwArg (u : BitVec 34) : BitVec 32 := u.extractLsb' 0 32

/-- Decoding of a micro-operation word (R60). -/
def decodeMicro (u : BitVec 34) : Except Illegal Instr :=
  match (uwUop u).toNat with
  | 1 => if (uwArg u).extractLsb' 7 25 = 0 then .ok (.cen ((uwArg u).extractLsb' 0 7)) else .error (.microOperand 1)
  | 2 => if uwArg u = 0 then .ok .cdis else .error (.microOperand 2)
  | 3 => .ok (.dly (uwArg u))
  | _ => .error .microNone

/-- Decoding of a presented word: an instruction, or a rejection by name. -/
def decode : CodeWord → Except Illegal Instr
  | .cw w => decodeCommand w
  | .uw u => decodeMicro u

/-- The instruction in an opcode-table word of `nbits` bits: a command word in up to 32 bits, a micro-operation word
in the 34 low bits of a longer one, whose further bits are 0. The words have no byte order (20_memory R40). -/
def decodeTableWord (nbits w : Nat) : Option Instr :=
  if nbits ≤ 32 then
    if w < 2 ^ 32 then (decode (.cw (BitVec.ofNat 32 w))).toOption else none
  else
    if w < 2 ^ 34 then (decode (.uw (BitVec.ofNat 34 w))).toOption else none

/-! ## Encoding -/

/-- A command word from its fields (R52), reserved bits 0. -/
def commandWord (op : BitVec 4) (proto : BitVec 5) (var : BitVec 2) (tgl auto rpt ext : Bool) : BitVec 32 :=
  op ++ proto ++ var ++ BitVec.ofBool tgl ++ BitVec.ofBool auto ++ BitVec.ofBool rpt ++ BitVec.ofBool ext ++ 0#17

/-- The word of `CEN(d)` (R60). -/
def cenWord (d : Duty) : BitVec 34 := 1#2 ++ 0#25 ++ d
/-- The word of `CDIS` (R60). -/
def cdisWord : BitVec 34 := 2#2 ++ 0#32
/-- The word of `DLY(n)` (R60). -/
def dlyWord (n : Word) : BitVec 34 := 3#2 ++ n

/-- The word of an operation that takes no field but `proto` (R54). -/
def plainWord (op : BitVec 4) (proto : BitVec 5) : CodeWord := .cw (commandWord op proto 0#2 false false false false)

/-- The word of an ENCODE, SEND or SENDN of protocol `p` (R52, R54). -/
def frameWord (op : BitVec 4) (p : Proto) (var : BitVec 2) (tgl auto rpt ext : Bool) : CodeWord :=
  .cw (commandWord op (protoCode p) var tgl auto rpt ext)

/-- The word of an instruction, with 0 in every field it does not read (R52 to R55, R60). -/
def encode : Instr → CodeWord
  | .init => plainWord 1#4 0#5
  | .getinfo proto => plainWord 2#4 proto
  | .fromname => plainWord 3#4 0#5
  | .encodeNec => frameWord 4#4 .nec 0#2 false false false false
  | .encodeNecRpt => frameWord 4#4 .nec 0#2 false false true false
  | .encodeNecExt rpt => frameWord 4#4 .necExt 0#2 false false rpt false
  | .encodeSony12 rpt => frameWord 4#4 .sony 0#2 false false rpt false
  | .encodeSony15 rpt => frameWord 4#4 .sony 1#2 false false rpt false
  | .encodeSony20 rpt => frameWord 4#4 .sony 2#2 false false rpt false
  | .encodeSonyVar3 => frameWord 4#4 .sony 3#2 false false false false
  | .encodeRc5 tgl rpt => frameWord 4#4 .rc5 0#2 tgl false rpt false
  | .encodeRc5X tgl rpt => frameWord 4#4 .rc5 0#2 tgl false rpt true
  | .encodeRc6 tgl rpt => frameWord 4#4 .rc6 0#2 tgl false rpt false
  | .encodeSamsung rpt => frameWord 4#4 .samsung 0#2 false false rpt false
  | .encodePanasonic rpt => frameWord 4#4 .panasonic 0#2 false false rpt false
  | .encodeJvc rpt => frameWord 4#4 .jvc 0#2 false false rpt false
  | .encodeLg rpt => frameWord 4#4 .lg 0#2 false false rpt false
  | .encodeMitsubishi rpt => frameWord 4#4 .mitsubishi 0#2 false false rpt false
  | .encodeSharp rpt => frameWord 4#4 .sharp 0#2 false false rpt false
  | .encodeDish rpt => frameWord 4#4 .dish 0#2 false false rpt false
  | .encodeAiwa rpt => frameWord 4#4 .aiwa 0#2 false false rpt false
  | .encodeDenon rpt => frameWord 4#4 .denon 0#2 false false rpt false
  | .encodeKaseikyo rpt => frameWord 4#4 .kaseikyo 0#2 false false rpt false
  | .encodeWhynter rpt => frameWord 4#4 .whynter 0#2 false false rpt false
  | .encodeCoolix rpt => frameWord 4#4 .coolix 0#2 false false rpt false
  | .encodeGeneric rpt => frameWord 4#4 .generic 0#2 false false rpt false
  | .transmit => plainWord 5#4 0#5
  | .sendNec => frameWord 6#4 .nec 0#2 false false false false
  | .sendNecRpt => frameWord 6#4 .nec 0#2 false false true false
  | .sendNecExt rpt => frameWord 6#4 .necExt 0#2 false false rpt false
  | .sendSony12 rpt => frameWord 6#4 .sony 0#2 false false rpt false
  | .sendSony15 rpt => frameWord 6#4 .sony 1#2 false false rpt false
  | .sendSony20 rpt => frameWord 6#4 .sony 2#2 false false rpt false
  | .sendSonyVar3 => frameWord 6#4 .sony 3#2 false false false false
  | .sendRc5 tgl auto rpt => frameWord 6#4 .rc5 0#2 tgl auto rpt false
  | .sendRc5X tgl auto rpt => frameWord 6#4 .rc5 0#2 tgl auto rpt true
  | .sendRc6 tgl auto rpt => frameWord 6#4 .rc6 0#2 tgl auto rpt false
  | .sendSamsung rpt => frameWord 6#4 .samsung 0#2 false false rpt false
  | .sendPanasonic rpt => frameWord 6#4 .panasonic 0#2 false false rpt false
  | .sendJvc rpt => frameWord 6#4 .jvc 0#2 false false rpt false
  | .sendLg rpt => frameWord 6#4 .lg 0#2 false false rpt false
  | .sendMitsubishi rpt => frameWord 6#4 .mitsubishi 0#2 false false rpt false
  | .sendSharp rpt => frameWord 6#4 .sharp 0#2 false false rpt false
  | .sendDish rpt => frameWord 6#4 .dish 0#2 false false rpt false
  | .sendAiwa rpt => frameWord 6#4 .aiwa 0#2 false false rpt false
  | .sendDenon rpt => frameWord 6#4 .denon 0#2 false false rpt false
  | .sendKaseikyo rpt => frameWord 6#4 .kaseikyo 0#2 false false rpt false
  | .sendWhynter rpt => frameWord 6#4 .whynter 0#2 false false rpt false
  | .sendCoolix rpt => frameWord 6#4 .coolix 0#2 false false rpt false
  | .sendGeneric rpt => frameWord 6#4 .generic 0#2 false false rpt false
  | .rsttglRc5 => plainWord 7#4 (protoCode .rc5)
  | .rsttglRc6 => plainWord 7#4 (protoCode .rc6)
  | .sendnNec => frameWord 8#4 .nec 0#2 false false false false
  | .sendnNecRpt => frameWord 8#4 .nec 0#2 false false true false
  | .sendnNecExt rpt => frameWord 8#4 .necExt 0#2 false false rpt false
  | .sendnSony12 rpt => frameWord 8#4 .sony 0#2 false false rpt false
  | .sendnSony15 rpt => frameWord 8#4 .sony 1#2 false false rpt false
  | .sendnSony20 rpt => frameWord 8#4 .sony 2#2 false false rpt false
  | .sendnSonyVar3 => frameWord 8#4 .sony 3#2 false false false false
  | .sendnRc5 tgl auto rpt => frameWord 8#4 .rc5 0#2 tgl auto rpt false
  | .sendnRc5X tgl auto rpt => frameWord 8#4 .rc5 0#2 tgl auto rpt true
  | .sendnRc6 tgl auto rpt => frameWord 8#4 .rc6 0#2 tgl auto rpt false
  | .sendnSamsung rpt => frameWord 8#4 .samsung 0#2 false false rpt false
  | .sendnPanasonic rpt => frameWord 8#4 .panasonic 0#2 false false rpt false
  | .sendnJvc rpt => frameWord 8#4 .jvc 0#2 false false rpt false
  | .sendnLg rpt => frameWord 8#4 .lg 0#2 false false rpt false
  | .sendnMitsubishi rpt => frameWord 8#4 .mitsubishi 0#2 false false rpt false
  | .sendnSharp rpt => frameWord 8#4 .sharp 0#2 false false rpt false
  | .sendnDish rpt => frameWord 8#4 .dish 0#2 false false rpt false
  | .sendnAiwa rpt => frameWord 8#4 .aiwa 0#2 false false rpt false
  | .sendnDenon rpt => frameWord 8#4 .denon 0#2 false false rpt false
  | .sendnKaseikyo rpt => frameWord 8#4 .kaseikyo 0#2 false false rpt false
  | .sendnWhynter rpt => frameWord 8#4 .whynter 0#2 false false rpt false
  | .sendnCoolix rpt => frameWord 8#4 .coolix 0#2 false false rpt false
  | .sendnGeneric rpt => frameWord 8#4 .generic 0#2 false false rpt false
  | .illegalOp0 => plainWord 0#4 0#5
  | .illegalOp9 => plainWord 9#4 0#5
  | .illegalOp10 => plainWord 10#4 0#5
  | .illegalOp11 => plainWord 11#4 0#5
  | .illegalOp12 => plainWord 12#4 0#5
  | .illegalOp13 => plainWord 13#4 0#5
  | .illegalOp14 => plainWord 14#4 0#5
  | .illegalOp15 => plainWord 15#4 0#5
  | .cen duty => .uw (cenWord duty)
  | .cdis => .uw cdisWord
  | .dly us => .uw (dlyWord us)

/-! ## The opcode table -/

/-- The bits of a row of spec/opcode_table.json: a word matches when its bits under `mask` are `bits`. -/
inductive RowPattern where
  | cw (bits mask : BitVec 32)
  | uw (bits mask : BitVec 34)
deriving DecidableEq, Repr

/-- A row of spec/opcode_table.json. -/
structure OpcodeRow where
  mnemonic : String
  pattern : RowPattern
deriving DecidableEq, Repr

/-- The word matches the row: same format, and its bits under the mask are the row's. -/
def OpcodeRow.fits (r : OpcodeRow) (c : CodeWord) : Bool :=
  match r.pattern, c with
  | .cw bits mask, .cw w => decide (w &&& mask = bits)
  | .uw bits mask, .uw u => decide (u &&& mask = bits)
  | _, _ => false

/-- The row of spec/opcode_table.json that a constructor stands for. -/
def Instr.row : Instr → OpcodeRow
  | .init => ⟨"INIT", .cw 0x10000000 0xF001FFFF⟩
  | .getinfo _ => ⟨"GETINFO", .cw 0x20000000 0xF001FFFF⟩
  | .fromname => ⟨"FROMNAME", .cw 0x30000000 0xF001FFFF⟩
  | .encodeNec => ⟨"ENCODE.NEC", .cw 0x40000000 0xFF85FFFF⟩
  | .encodeNecRpt => ⟨"ENCODE.NEC.RPT", .cw 0x40040000 0xFF85FFFF⟩
  | .encodeNecExt _ => ⟨"ENCODE.NEC_EXT", .cw 0x40800000 0xFF81FFFF⟩
  | .encodeSony12 _ => ⟨"ENCODE.SONY.12", .cw 0x41000000 0xFFE1FFFF⟩
  | .encodeSony15 _ => ⟨"ENCODE.SONY.15", .cw 0x41200000 0xFFE1FFFF⟩
  | .encodeSony20 _ => ⟨"ENCODE.SONY.20", .cw 0x41400000 0xFFE1FFFF⟩
  | .encodeSonyVar3 => ⟨"ENCODE.SONY.VAR3", .cw 0x41600000 0xFFE00000⟩
  | .encodeRc5 _ _ => ⟨"ENCODE.RC5", .cw 0x41800000 0xFF83FFFF⟩
  | .encodeRc5X _ _ => ⟨"ENCODE.RC5.X", .cw 0x41820000 0xFF83FFFF⟩
  | .encodeRc6 _ _ => ⟨"ENCODE.RC6", .cw 0x42000000 0xFF81FFFF⟩
  | .encodeSamsung _ => ⟨"ENCODE.SAMSUNG", .cw 0x42800000 0xFF81FFFF⟩
  | .encodePanasonic _ => ⟨"ENCODE.PANASONIC", .cw 0x43000000 0xFF81FFFF⟩
  | .encodeJvc _ => ⟨"ENCODE.JVC", .cw 0x43800000 0xFF81FFFF⟩
  | .encodeLg _ => ⟨"ENCODE.LG", .cw 0x44000000 0xFF81FFFF⟩
  | .encodeMitsubishi _ => ⟨"ENCODE.MITSUBISHI", .cw 0x44800000 0xFF81FFFF⟩
  | .encodeSharp _ => ⟨"ENCODE.SHARP", .cw 0x45000000 0xFF81FFFF⟩
  | .encodeDish _ => ⟨"ENCODE.DISH", .cw 0x45800000 0xFF81FFFF⟩
  | .encodeAiwa _ => ⟨"ENCODE.AIWA", .cw 0x46000000 0xFF81FFFF⟩
  | .encodeDenon _ => ⟨"ENCODE.DENON", .cw 0x46800000 0xFF81FFFF⟩
  | .encodeKaseikyo _ => ⟨"ENCODE.KASEIKYO", .cw 0x47000000 0xFF81FFFF⟩
  | .encodeWhynter _ => ⟨"ENCODE.WHYNTER", .cw 0x47800000 0xFF81FFFF⟩
  | .encodeCoolix _ => ⟨"ENCODE.COOLIX", .cw 0x48000000 0xFF81FFFF⟩
  | .encodeGeneric _ => ⟨"ENCODE.GENERIC", .cw 0x48800000 0xFF81FFFF⟩
  | .transmit => ⟨"TRANSMIT", .cw 0x50000000 0xF001FFFF⟩
  | .sendNec => ⟨"SEND.NEC", .cw 0x60000000 0xFF85FFFF⟩
  | .sendNecRpt => ⟨"SEND.NEC.RPT", .cw 0x60040000 0xFF85FFFF⟩
  | .sendNecExt _ => ⟨"SEND.NEC_EXT", .cw 0x60800000 0xFF81FFFF⟩
  | .sendSony12 _ => ⟨"SEND.SONY.12", .cw 0x61000000 0xFFE1FFFF⟩
  | .sendSony15 _ => ⟨"SEND.SONY.15", .cw 0x61200000 0xFFE1FFFF⟩
  | .sendSony20 _ => ⟨"SEND.SONY.20", .cw 0x61400000 0xFFE1FFFF⟩
  | .sendSonyVar3 => ⟨"SEND.SONY.VAR3", .cw 0x61600000 0xFFE00000⟩
  | .sendRc5 _ _ _ => ⟨"SEND.RC5", .cw 0x61800000 0xFF83FFFF⟩
  | .sendRc5X _ _ _ => ⟨"SEND.RC5.X", .cw 0x61820000 0xFF83FFFF⟩
  | .sendRc6 _ _ _ => ⟨"SEND.RC6", .cw 0x62000000 0xFF81FFFF⟩
  | .sendSamsung _ => ⟨"SEND.SAMSUNG", .cw 0x62800000 0xFF81FFFF⟩
  | .sendPanasonic _ => ⟨"SEND.PANASONIC", .cw 0x63000000 0xFF81FFFF⟩
  | .sendJvc _ => ⟨"SEND.JVC", .cw 0x63800000 0xFF81FFFF⟩
  | .sendLg _ => ⟨"SEND.LG", .cw 0x64000000 0xFF81FFFF⟩
  | .sendMitsubishi _ => ⟨"SEND.MITSUBISHI", .cw 0x64800000 0xFF81FFFF⟩
  | .sendSharp _ => ⟨"SEND.SHARP", .cw 0x65000000 0xFF81FFFF⟩
  | .sendDish _ => ⟨"SEND.DISH", .cw 0x65800000 0xFF81FFFF⟩
  | .sendAiwa _ => ⟨"SEND.AIWA", .cw 0x66000000 0xFF81FFFF⟩
  | .sendDenon _ => ⟨"SEND.DENON", .cw 0x66800000 0xFF81FFFF⟩
  | .sendKaseikyo _ => ⟨"SEND.KASEIKYO", .cw 0x67000000 0xFF81FFFF⟩
  | .sendWhynter _ => ⟨"SEND.WHYNTER", .cw 0x67800000 0xFF81FFFF⟩
  | .sendCoolix _ => ⟨"SEND.COOLIX", .cw 0x68000000 0xFF81FFFF⟩
  | .sendGeneric _ => ⟨"SEND.GENERIC", .cw 0x68800000 0xFF81FFFF⟩
  | .rsttglRc5 => ⟨"RSTTGL.RC5", .cw 0x71800000 0xFF81FFFF⟩
  | .rsttglRc6 => ⟨"RSTTGL.RC6", .cw 0x72000000 0xFF81FFFF⟩
  | .sendnNec => ⟨"SENDN.NEC", .cw 0x80000000 0xFF85FFFF⟩
  | .sendnNecRpt => ⟨"SENDN.NEC.RPT", .cw 0x80040000 0xFF85FFFF⟩
  | .sendnNecExt _ => ⟨"SENDN.NEC_EXT", .cw 0x80800000 0xFF81FFFF⟩
  | .sendnSony12 _ => ⟨"SENDN.SONY.12", .cw 0x81000000 0xFFE1FFFF⟩
  | .sendnSony15 _ => ⟨"SENDN.SONY.15", .cw 0x81200000 0xFFE1FFFF⟩
  | .sendnSony20 _ => ⟨"SENDN.SONY.20", .cw 0x81400000 0xFFE1FFFF⟩
  | .sendnSonyVar3 => ⟨"SENDN.SONY.VAR3", .cw 0x81600000 0xFFE00000⟩
  | .sendnRc5 _ _ _ => ⟨"SENDN.RC5", .cw 0x81800000 0xFF83FFFF⟩
  | .sendnRc5X _ _ _ => ⟨"SENDN.RC5.X", .cw 0x81820000 0xFF83FFFF⟩
  | .sendnRc6 _ _ _ => ⟨"SENDN.RC6", .cw 0x82000000 0xFF81FFFF⟩
  | .sendnSamsung _ => ⟨"SENDN.SAMSUNG", .cw 0x82800000 0xFF81FFFF⟩
  | .sendnPanasonic _ => ⟨"SENDN.PANASONIC", .cw 0x83000000 0xFF81FFFF⟩
  | .sendnJvc _ => ⟨"SENDN.JVC", .cw 0x83800000 0xFF81FFFF⟩
  | .sendnLg _ => ⟨"SENDN.LG", .cw 0x84000000 0xFF81FFFF⟩
  | .sendnMitsubishi _ => ⟨"SENDN.MITSUBISHI", .cw 0x84800000 0xFF81FFFF⟩
  | .sendnSharp _ => ⟨"SENDN.SHARP", .cw 0x85000000 0xFF81FFFF⟩
  | .sendnDish _ => ⟨"SENDN.DISH", .cw 0x85800000 0xFF81FFFF⟩
  | .sendnAiwa _ => ⟨"SENDN.AIWA", .cw 0x86000000 0xFF81FFFF⟩
  | .sendnDenon _ => ⟨"SENDN.DENON", .cw 0x86800000 0xFF81FFFF⟩
  | .sendnKaseikyo _ => ⟨"SENDN.KASEIKYO", .cw 0x87000000 0xFF81FFFF⟩
  | .sendnWhynter _ => ⟨"SENDN.WHYNTER", .cw 0x87800000 0xFF81FFFF⟩
  | .sendnCoolix _ => ⟨"SENDN.COOLIX", .cw 0x88000000 0xFF81FFFF⟩
  | .sendnGeneric _ => ⟨"SENDN.GENERIC", .cw 0x88800000 0xFF81FFFF⟩
  | .illegalOp0 => ⟨"ILLEGAL.OP0", .cw 0x00000000 0xF0000000⟩
  | .illegalOp9 => ⟨"ILLEGAL.OP9", .cw 0x90000000 0xF0000000⟩
  | .illegalOp10 => ⟨"ILLEGAL.OP10", .cw 0xA0000000 0xF0000000⟩
  | .illegalOp11 => ⟨"ILLEGAL.OP11", .cw 0xB0000000 0xF0000000⟩
  | .illegalOp12 => ⟨"ILLEGAL.OP12", .cw 0xC0000000 0xF0000000⟩
  | .illegalOp13 => ⟨"ILLEGAL.OP13", .cw 0xD0000000 0xF0000000⟩
  | .illegalOp14 => ⟨"ILLEGAL.OP14", .cw 0xE0000000 0xF0000000⟩
  | .illegalOp15 => ⟨"ILLEGAL.OP15", .cw 0xF0000000 0xF0000000⟩
  | .cen _ => ⟨"CEN", .uw 0x100000000 0x3FFFFFF80⟩
  | .cdis => ⟨"CDIS", .uw 0x200000000 0x3FFFFFFFF⟩
  | .dly _ => ⟨"DLY", .uw 0x300000000 0x300000000⟩

end Sys2Proof
end

