-- ==== Sys2Proof/Config.lean ====
section
/-! DEFINITION. The parameters of the model (00_scope R6): the records of the registry and of the catalog
(30_encoding R56 to R58), and one OPAQUE constant for each OPEN parameter, so that no proof can see a value of it.
Machine/Catalog.lean brings the raw constants into the range the spec demands (40_registry R79) and bundles them. -/

namespace Sys2Proof

/-- ProtocolInfo: `INFO[P]` and the result register `RESINFO` (R56). -/
structure ProtocolInfo where
  name : List Byte
  defaultCarrierHz : Word
  addressBits : Word
  commandBits : Word
  hasRepeat : Bool
  description : List Byte
deriving DecidableEq, Repr, Inhabited

/-- The cells of `INFO[P]` that can be OPEN (R74). A sourced cell of the table in R74 overrides the one here. -/
structure OpenInfo where
  defaultCarrierHz : Word
  addressBits : Word
  commandBits : Word
  hasRepeat : Bool
  description : List Byte
deriving DecidableEq, Repr, Inhabited

/-- TimingSpec: `T[P]` (R57). `stopBitUs = none` is the absent stop bit, which is not the same as 0. -/
structure TimingSpec where
  headerMarkUs : Word
  headerSpaceUs : Word
  bitOneMarkUs : Word
  bitOneSpaceUs : Word
  bitZeroMarkUs : Word
  bitZeroSpaceUs : Word
  stopBitUs : Option Word
  carrierFreqHz : Word
  dutyCyclePercent : Duty
deriving DecidableEq, Repr, Inhabited

/-- The catalog extension `TX[P]` (R58). -/
structure TimingExt where
  rptMarkUs : Word
  rptSpaceUs : Word
  footerSpaceUs : Word
deriving DecidableEq, Repr, Inhabited

/-- `ENC_EXT[P]`: a frame function from the masked address and command, with its `MINCAP[P]` (R97). -/
structure EncExt where
  frame : Nat → Nat → List Symbol
  minCap : Nat
deriving Inhabited

/-- All parameters of R6 in one record. The operations take it as an argument, so that a claim can be stated for
every catalog; the machine runs with `Machine.params`. `hwOk n` is the answer of the PWM peripheral to the
configuration attempt number `n`. `illegalClearsRes0 op k` says which of two rulings an illegal word of operation code
`op` follows (log 12). `jitUs` is read by no rule. -/
structure Params where
  nsym : Nat
  nameMax : Nat
  strict : Bool
  name : Proto → List Byte
  openInfo : Proto → OpenInfo
  timing : Proto → TimingSpec
  ext : Proto → TimingExt
  encExt : Proto → Option EncExt
  rptCount : Proto → Nat
  rptGapUs : Proto → Word
  jitUs : Nat
  hwOk : Nat → Bool
  illegalClearsRes0 : BitVec 4 → IllegalFrame → Bool
deriving Inhabited

namespace Config

/-- `NSYM - 52` (R6: OPEN, at least 52). -/
opaque nsymExtra : Fin 4294967244

/-- `NAMEMAX - 10` (R6: OPEN, at least 10). -/
opaque nameMaxExtra : Fin 4294967286

/-- `STRICT` (R82). -/
opaque strict : Bool

/-- `NAME[P]` (R72). -/
opaque name : Proto → List Byte

/-- The OPEN cells of `INFO[P]` (R74). -/
opaque openInfo : Proto → OpenInfo

/-- `T[P]` before `Machine.legalTiming` (R57: the source gives no value of any field). -/
opaque timing : Proto → TimingSpec

/-- `TX[P]` (R58). -/
opaque ext : Proto → TimingExt

/-- `ENC_EXT[P]`, absent or given (R97). -/
opaque encExt : Proto → Option EncExt

/-- `RPT_COUNT[P] - 1` (R136: OPEN, at least 1). -/
opaque rptExtra : Proto → Nat

/-- `RPT_GAP_US[P]` (R136). -/
opaque rptGapUs : Proto → Word

/-- `JIT_US` (R6): no rule reads it. -/
opaque jitUs : Nat

/-- The draw `hw_ok`: the answer of the PWM peripheral to attempt number `n` (R119 step 3, R120 step 4, R134
step 5, R136 step 7). A free value: nothing constrains it. -/
opaque hwOk : Nat → Bool

/-- Does an illegal word of operation code `op` (ENCODE, SEND, SENDN) clear `RES0`? R64, D37 and vector K8 say that it
changes `ERR` alone; R81, R134, R136, D41 and vectors E19 to E21 say `RES0 <- 0`. A free value: nothing constrains it,
so both rulings are admitted (log 12). -/
opaque illegalClearsRes0 : BitVec 4 → IllegalFrame → Bool

end Config

end Sys2Proof
end

