-- ==== Sys2Proof/Machine/State.lean ====
section
/-! DEFINITION. The state of the block (10_state R13 to R34), the host's actions, the reasons a step can stop, and the
state after reset. Plain data throughout. -/

namespace Sys2Proof.Machine

/-- The phase of the sequencer position (R24). -/
inductive Phase where
  | idle | mark | space
deriving DecidableEq, Repr

/-- An item of the output history `WAVE` (R29). Durations are natural numbers, so that sums do not wrap (R30). -/
inductive WaveItem where
  /-- `On(f, d, n)`: carrier modulated at `f` hertz with duty `d` percent for `n` microseconds. -/
  | on (freq : Word) (duty : Duty) (us : Nat)
  /-- `Off(n)`: carrier off for `n` microseconds. -/
  | off (us : Nat)
  /-- `Idle`: carrier off for a time the spec does not fix. -/
  | idle
deriving DecidableEq, Repr

/-- The six operand registers `x[0]` to `x[5]` (R14). -/
inductive OpReg where
  | opa | opc | opcap | oplen | opfreq | opduty
deriving DecidableEq, Repr

/-- What the host can do to the block between operations (R14, R15, R22, R26, R52, R154). -/
inductive HostAction where
  /-- Write an operand register (R14). -/
  | setReg (r : OpReg) (v : Word)
  /-- Write `OPNAME` and `OPNAMELEN` (R15). -/
  | setName (bytes : List Byte)
  /-- `SET SYM[i]={m,s}` (R26, R67). -/
  | setSym (i : Word) (v : Symbol)
  /-- `SET IE=v` (R22, R67). -/
  | setIe (v : Bool)
  /-- Present a command word at the command port (R52). -/
  | command (w : BitVec 32)
  /-- The reset event (R154). -/
  | reset
deriving DecidableEq, Repr

/-- The symbol buffer `SYM`: the entries that have been written, as (index, symbol) pairs with strictly rising
indexes. An entry that is not listed holds no value (20_memory R35, R43; log 1, log 2). -/
abbrev SymMem := List (Nat × Symbol)

/-- The state of the block (R13), and three fields of the model's own: `draws`, `port`, `uport`. -/
@[ext]
structure State where
  /-- `x[0]`: address (R14). -/
  opa : Word
  /-- `x[1]`: command (R14). -/
  opc : Word
  /-- `x[2]`: capacity (R14). -/
  opcap : Word
  /-- `x[3]`: number of symbols to transmit (R14). -/
  oplen : Word
  /-- `x[4]`: carrier frequency operand (R14). -/
  opfreq : Word
  /-- `x[5]`: duty cycle operand (R14). -/
  opduty : Word
  /-- The bytes of `OPNAME` the host has written; a byte beyond them reads as 0 (R15, log 16). -/
  opname : List Byte
  /-- `OPNAMELEN` (R15). -/
  opnameLen : Word
  /-- `ERR` (R16, R139). -/
  err : Byte
  /-- `RES0` (R16). -/
  res0 : Word
  /-- `RESINFO` (R16, R56). -/
  resinfo : ProtocolInfo
  /-- `INIT` (R17). -/
  init : Bool
  /-- `FAULT` (R18). -/
  fault : Bool
  /-- `CARRIER` (R20). -/
  carrier : Bool
  /-- `CFREQ` (R19). -/
  cfreq : Word
  /-- `CDUTY` (R19). -/
  cduty : Duty
  /-- `PHASE` (R24). -/
  phase : Phase
  /-- `IDX` (R24). -/
  idx : Word
  /-- `LEN` (R25). -/
  len : Word
  /-- `REM` (R25). -/
  rem : Word
  /-- `SYM` (R26). -/
  sym : SymMem
  /-- `SYMLEN` (R26). -/
  symLen : Word
  /-- `TOGGLE[RC5]` (R21). -/
  toggleRc5 : Bool
  /-- `TOGGLE[RC6]` (R21). -/
  toggleRc6 : Bool
  /-- `IE` (R22). -/
  ie : Bool
  /-- `IESAVE` (R22). -/
  iesave : Bool
  /-- `WAVE` (R29). -/
  wave : List WaveItem
  /-- The model's own: how many PWM configuration attempts have been made; the next draws `hwOk draws` (log 5). -/
  draws : Nat
  /-- The model's own: the host's actions still to come, in order (log 8). -/
  port : List HostAction
  /-- The model's own: micro-operation words issued by the sequencer and not yet taken (R60, log 11). -/
  uport : List (BitVec 34)
deriving DecidableEq, Repr

/-- Why the machine stops with a fault. -/
inductive Fault where
  /-- Raised by TRANSMIT and by the sequencer when an entry of `SYM` they read has never been written (R43, R145).
  Safe: the model gives the entry no value. -/
  | unwrittenSymbol (index : Nat)
  /-- Raised by a host write of `SYM[i]` with `i >= NSYM`, an entry that does not exist (R26, R35; log 17). Safe. -/
  | noSuchSymbol (index : Nat)
deriving DecidableEq, Repr

/-- Why a step is refused. -/
inductive Refusal where
  /-- An instruction without a meaning yet, by its mnemonic. Raised only by an arm of `exec`. Safe. -/
  | notModelled (mnemonic : String)
  /-- Raised when the host acts while a transmission is in progress (R44, R45, R145; log 9). Safe. -/
  | overlappedOperation
  /-- Raised when the host presents a name longer than `NAMEMAX` (R71: it cannot be presented; log 16). Safe. -/
  | nameTooLong
  /-- Raised by a micro-operation word that is none of CEN, CDIS and DLY (R60, R64 row 8; log 11). Safe: the
  sequencer never issues one. -/
  | noSuchMicroOperation
deriving DecidableEq, Repr

/-- A ProtocolInfo record with every field zero or empty: `RESINFO` at reset (R34 leaves it unspecified; log 3). -/
def blankInfo : ProtocolInfo where
  name := []
  defaultCarrierHz := 0
  addressBits := 0
  commandBits := 0
  hasRepeat := false
  description := []

/-- The state after reset (R34, R154). `idx`, `len`, `rem`, `iesave`, `resinfo` and the bytes of `opname` have no
reset value in the spec (log 3), and `ie` is the host's (log 4). -/
def State.reset : State where
  opa := 0
  opc := 0
  opcap := 0
  oplen := 0
  opfreq := 0
  opduty := 0
  opname := []
  opnameLen := 0
  err := 0
  res0 := 0
  resinfo := blankInfo
  init := false
  fault := false
  carrier := false
  cfreq := 0
  cduty := 0
  phase := .idle
  idx := 0
  len := 0
  rem := 0
  sym := []
  symLen := 0
  toggleRc5 := false
  toggleRc6 := false
  ie := true
  iesave := false
  wave := []
  draws := 0
  port := []
  uport := []

end Sys2Proof.Machine
end

