-- ==== Sys2Proof/Machine/Catalog.lean ====
section
/-! DEFINITION. The registry and the catalog of the machine (40_registry R69 to R79): the parameters of Config.lean
brought into the range that R79, R87 and the RC6 header constraint of R78 demand, and the sourced cells of `INFO`.
A value that is in range is left as it is, so every legal catalog is the catalog of some choice of the opaque
constants (log 6). -/

namespace Sys2Proof.Machine

/-- Does the spec demand a stop bit of the protocol (R79)? -/
def stopRequired : Proto → Bool
  | .nec | .necExt | .coolix => true
  | _ => false

/-- The three coding classes (R76). -/
inductive CodingClass where
  | pulseDistance | pulseWidth | manchester
deriving DecidableEq, Repr

/-- The coding class of a protocol (R76): NEC_EXT is in NEC's class (D18), GENERIC in none. -/
def classOf : Proto → Option CodingClass
  | .sony => some .pulseWidth
  | .rc5 | .rc6 => some .manchester
  | .generic => none
  | _ => some .pulseDistance

/-- Is the protocol Manchester coded (R76)? -/
def isManchester (P : Proto) : Bool := classOf P = some .manchester

/-- The range and presence constraints on a catalog entry: a carrier of at least 1 Hz, a duty of at most 100 percent,
the stop bits of R79; for RC5 and RC6 the premise `3 * HB < 2^32` of R87; for RC6 the wide header of R78. -/
structure TimingLegal (P : Proto) (t : TimingSpec) : Prop where
  freq : t.carrierFreqHz ≠ 0
  duty : t.dutyCyclePercent.toNat ≤ 100
  stop : stopRequired P = true → t.stopBitUs.isSome = true
  halfBit : isManchester P = true → 3 * t.bitOneMarkUs.toNat < 2 ^ 32
  headerMark : P = .rc6 → t.bitOneMarkUs.toNat < t.headerMarkUs.toNat
  headerSpace : P = .rc6 → t.bitOneMarkUs.toNat < t.headerSpaceUs.toNat

/-- A half-bit time that meets the premise of R87; one that does not is replaced by 0. -/
def legalHalfBit (P : Proto) (hb : Word) : Word :=
  if isManchester P = true ∧ 2 ^ 32 ≤ 3 * hb.toNat then 0 else hb

/-- An RC6 header duration wider than the half-bit time (R78). -/
def legalHeader (P : Proto) (hb h : Word) : Word :=
  if P = .rc6 ∧ h.toNat ≤ hb.toNat then hb + 1 else h

/-- A catalog entry brought into range; an entry in range is unchanged. -/
def legalTiming (P : Proto) (t : TimingSpec) : TimingSpec :=
  { t with
    bitOneMarkUs := legalHalfBit P t.bitOneMarkUs
    headerMarkUs := legalHeader P (legalHalfBit P t.bitOneMarkUs) t.headerMarkUs
    headerSpaceUs := legalHeader P (legalHalfBit P t.bitOneMarkUs) t.headerSpaceUs
    stopBitUs := if stopRequired P then some (t.stopBitUs.getD 0) else t.stopBitUs
    carrierFreqHz := if t.carrierFreqHz = 0 then 1 else t.carrierFreqHz
    dutyCyclePercent := if 100 < t.dutyCyclePercent.toNat then 100 else t.dutyCyclePercent }

/-- An optional frame function whose frames fit the symbol buffer (R97: "a symbol list of at most `NSYM` symbols"). -/
def legalEncExt (nsym : Nat) (e : EncExt) : EncExt :=
  { e with frame := fun a c => (e.frame a c).take nsym }

/-- The parameters the machine runs with: every OPEN parameter of R6 an opaque constant, in the range of R6 and R79. -/
def params : Params where
  nsym := Config.nsymExtra.val + 52
  nameMax := Config.nameMaxExtra.val + 10
  strict := Config.strict
  name := Config.name
  openInfo := Config.openInfo
  timing := fun P => legalTiming P (Config.timing P)
  ext := Config.ext
  encExt := fun P => (Config.encExt P).map (legalEncExt (Config.nsymExtra.val + 52))
  rptCount := fun P => Config.rptExtra P + 1
  rptGapUs := Config.rptGapUs
  jitUs := Config.jitUs
  hwOk := Config.hwOk
  illegalClearsRes0 := Config.illegalClearsRes0

/-- What R6, R79, R87 and R97 demand of the parameters, and what the 32-bit registers `SYMLEN`, `LEN`, `IDX` and
`OPNAMELEN` demand of `NSYM` and `NAMEMAX` (log 7). -/
structure ParamsLegal (p : Params) : Prop where
  nsym_ge : 52 ≤ p.nsym
  nsym_lt : p.nsym < 2 ^ 32
  nameMax_ge : 10 ≤ p.nameMax
  nameMax_lt : p.nameMax < 2 ^ 32
  timing : ∀ P, TimingLegal P (p.timing P)
  encExt : ∀ P e, p.encExt P = some e → ∀ a c, (e.frame a c).length ≤ p.nsym
  rptCount : ∀ P, 1 ≤ p.rptCount P

/-! ## The registry (R74) -/

/-- `INFO[P].address_bits`: the sourced cells of R74, else the OPEN one. -/
def addressBits (p : Params) : Proto → Word
  | .nec => 8
  | .necExt => 16
  | .sony => 5
  | .rc5 => 5
  | .rc6 => 8
  | .panasonic => 16
  | .sharp => 5
  | .kaseikyo => 16
  | .coolix => 0
  | P => (p.openInfo P).addressBits

/-- `INFO[P].command_bits`: the sourced cells of R74, else the OPEN one. -/
def commandBits (p : Params) : Proto → Word
  | .nec => 8
  | .necExt => 8
  | .sony => 7
  | .rc5 => 6
  | .rc6 => 8
  | .panasonic => 32
  | .sharp => 8
  | .kaseikyo => 32
  | .coolix => 24
  | P => (p.openInfo P).commandBits

/-- `INFO[P].has_repeat`: sourced for NEC, OPEN for every other protocol (R74). -/
def hasRepeat (p : Params) : Proto → Bool
  | .nec => true
  | P => (p.openInfo P).hasRepeat

/-- The registry record `INFO[P]` (R56, R72, R74). -/
def info (p : Params) (P : Proto) : ProtocolInfo where
  name := p.name P
  defaultCarrierHz := (p.openInfo P).defaultCarrierHz
  addressBits := addressBits p P
  commandBits := commandBits p P
  hasRepeat := hasRepeat p P
  description := (p.openInfo P).description

/-! ## Class constraints, premises a claim may take (R77, R78) -/

/-- Does the mark length vary within the pulse-distance class ("Sharp/Dish family variants", R76, R77)? -/
def variesMark : Proto → Bool
  | .sharp | .dish => true
  | _ => false

/-- Pulse-distance coding: equal marks, long space for a 1 (R77, for every pulse-distance protocol but SHARP and
DISH). -/
abbrev PulseDistance (t : TimingSpec) : Prop :=
  t.bitOneMarkUs = t.bitZeroMarkUs ∧ t.bitZeroSpaceUs.toNat < t.bitOneSpaceUs.toNat

/-- Pulse-width coding: equal spaces, long mark for a 1 (R77, SONY). -/
abbrev PulseWidth (t : TimingSpec) : Prop :=
  t.bitOneSpaceUs = t.bitZeroSpaceUs ∧ t.bitZeroMarkUs.toNat < t.bitOneMarkUs.toNat

/-- The relation R77 asks of SHARP and DISH, and of nothing else: the symbol of a 1 differs from that of a 0. -/
abbrev BitSymbolsDiffer (t : TimingSpec) : Prop :=
  t.bitOneMarkUs ≠ t.bitZeroMarkUs ∨ t.bitOneSpaceUs ≠ t.bitZeroSpaceUs

/-- Equal half-bit durations in all four bit fields (R78, RC5 and RC6). -/
abbrev EqualHalfBits (t : TimingSpec) : Prop :=
  t.bitOneMarkUs = t.bitOneSpaceUs ∧ t.bitOneMarkUs = t.bitZeroMarkUs ∧ t.bitOneMarkUs = t.bitZeroSpaceUs

/-- The entry `t` agrees with the source's description of the class of `P` (R77 for the two pulse-coded classes, R78
for Manchester; RC6's wide header of R78 is in `TimingLegal`). GENERIC has no class and so no constraint. -/
def ClassLegal (P : Proto) (t : TimingSpec) : Prop :=
  match classOf P with
  | some .pulseDistance => if variesMark P then BitSymbolsDiffer t else PulseDistance t
  | some .pulseWidth => PulseWidth t
  | some .manchester => EqualHalfBits t
  | none => True

/-- A catalog that agrees with the source's description of every class (R77, R78). The frame rules read none of these
relations (R77), so the machine does not demand them: `CatalogClassLegal p` is a premise that a claim may take. -/
def CatalogClassLegal (p : Params) : Prop := ∀ P, ClassLegal P (p.timing P)

end Sys2Proof.Machine
end

