-- ==== Sys2Proof/Machine/Ops.lean ====
section
/-! DEFINITION. The named operations over the symbol buffer and the registers, and raising a result, the one way an
operation of the block ends (60_exceptions R142). -/

namespace Sys2Proof.Machine

/-! ## The symbol buffer (20_memory R35, R36, R43) -/

/-- The symbol at index `i`; `none` when nothing has written the entry since reset (R43). -/
def symGet : SymMem → Nat → Option Symbol
  | [], _ => none
  | (k, v) :: rest, i => if k = i then some v else symGet rest i

/-- Write one entry; the indexes stay strictly rising. -/
def symSet : SymMem → Nat → Symbol → SymMem
  | [], i, v => [(i, v)]
  | (k, w) :: rest, i, v =>
    if i < k then (i, v) :: (k, w) :: rest
    else if i = k then (i, v) :: rest
    else (k, w) :: symSet rest i v

/-- `MemWrite(i, len(L), L)` (R36): `SYM[i+k] <- L[k]` for every `k`, and nothing else. -/
def memWrite (m : SymMem) (i : Nat) : List Symbol → SymMem
  | [] => m
  | v :: rest => memWrite (symSet m i v) (i + 1) rest

/-- `MemRead(i, n)` (R36): the symbols `SYM[i .. i+n-1]`, or the index of the first one that nothing has written. -/
def memRead (m : SymMem) (i : Nat) : Nat → Except Nat (List Symbol)
  | 0 => .ok []
  | n + 1 =>
    match symGet m i with
    | none => .error i
    | some v =>
      match memRead m (i + 1) n with
      | .error k => .error k
      | .ok rest => .ok (v :: rest)

/-- The canonical form of the symbol buffer: indexes strictly rising from `lo`. -/
def symRising : Nat → SymMem → Bool
  | _, [] => true
  | lo, (k, _) :: rest => decide (lo ≤ k) && symRising (k + 1) rest

/-- The canonical form of the symbol buffer. -/
def Memory.wf (m : SymMem) : Bool := symRising 0 m

/-- Every entry that is listed lies below `n` (R35: entries `0 .. NSYM-1`). -/
def symBelow (n : Nat) (m : SymMem) : Bool := m.all fun c => decide (c.1 < n)

/-! ## Registers -/

/-- Write an operand register (R14). -/
def setReg (r : OpReg) (v : Word) (s : State) : State :=
  match r with
  | .opa => { s with opa := v }
  | .opc => { s with opc := v }
  | .opcap => { s with opcap := v }
  | .oplen => { s with oplen := v }
  | .opfreq => { s with opfreq := v }
  | .opduty => { s with opduty := v }

/-- Read an operand register (R14). -/
def getReg (r : OpReg) (s : State) : Word :=
  match r with
  | .opa => s.opa
  | .opc => s.opc
  | .opcap => s.opcap
  | .oplen => s.oplen
  | .opfreq => s.opfreq
  | .opduty => s.opduty

/-- The host writes `OPNAME` and `OPNAMELEN` (R15); bytes beyond the new length keep what they held. -/
def setName (bytes : List Byte) (s : State) : State :=
  { s with
    opname := bytes ++ s.opname.drop bytes.length
    opnameLen := BitVec.ofNat 32 bytes.length }

/-- `OPNAME[0 .. OPNAMELEN-1]` (R71). -/
def operandName (s : State) : List Byte :=
  (List.range s.opnameLen.toNat).map fun i => s.opname.getD i 0

/-- A frame is stored in the buffer: `MemWrite(0, len(F), F)`, `SYMLEN <- len(F)`, `RES0 <- len(F)` (R81 step 11,
R134 step 8, R136 step 9). -/
def storeFrame (F : List Symbol) (s : State) : State :=
  { s with
    sym := memWrite s.sym 0 F
    symLen := BitVec.ofNat 32 F.length
    res0 := BitVec.ofNat 32 F.length }

/-! ## Results (60_exceptions R139, R142) -/

/-- The number of a result code (R139). -/
def resultCode : ResultCode → Byte
  | .ok => 0
  | .notInitialized => 1
  | .invalidArgument => 2
  | .bufferTooSmall => 3
  | .unsupportedProtocol => 4
  | .hwFailure => 5
  | .notFound => 6

/-- `raise E` (R142), and with `OK` the normal end of an operation (R9): `ERR <- E`. Nothing is saved, no mask
changes and control goes nowhere; there is no handler and so no return. -/
def raise (e : ResultCode) (s : State) : State :=
  { s with err := resultCode e }

/-- A failed ENCODE, SEND or SENDN: `RES0 <- 0` beside `ERR <- E` (R81, R134, R136, R139). -/
def raiseNoFrame (e : ResultCode) (s : State) : State :=
  { s with err := resultCode e, res0 := 0 }

/-- The operations that produce a frame: ENCODE, SEND, SENDN (R54). -/
def isFrameOp (op : BitVec 4) : Bool := op = 4 || op = 6 || op = 8

/-- The rejection of an illegal word with operation code `op` (R64): `ERR <- E`. For ENCODE, SEND and SENDN the spec
leaves open whether `RES0 <- 0` goes with it: R64, D37 and K8 name `ERR` alone, R81, R134, R136, D41 and E19 to E21 clear
`RES0` on every raise. A DESIGN CHOICE: the model takes neither side (log 12). -/
def raiseIllegal (p : Params) (op : BitVec 4) (k : IllegalFrame) (e : ResultCode) (s : State) : State :=
  { s with
    err := resultCode e
    res0 := if isFrameOp op && p.illegalClearsRes0 op k then 0 else s.res0 }

/-- A failed PWM configuration: `INIT <- 0`, `FAULT <- 1` (R18). -/
def hwFailed (s : State) : State :=
  { s with init := false, fault := true }

/-- One PWM configuration attempt has drawn its answer (R119 step 3; log 5). -/
def attempt (s : State) : State :=
  { s with draws := s.draws + 1 }

/-- The PWM is configured for a frequency and a duty cycle (R19). -/
def configure (f : Word) (d : Duty) (s : State) : State :=
  { s with cfreq := f, cduty := d }

end Sys2Proof.Machine
end

