-- ==== Sys2Proof/Machine/Flags.lean ====
section
/-! DEFINITION. The flag-like bits (10_state R23): the toggle bits, the interrupt enable and its critical section, the
carrier pin. The block has no arithmetic condition codes. -/

namespace Sys2Proof.Machine

/-- Has the protocol a toggle bit (R21: RC5 and RC6 only)? -/
def hasToggle : Proto → Bool
  | .rc5 | .rc6 => true
  | _ => false

/-- `TOGGLE[P]`; 0 for a protocol that has none, whose toggle no rule reads (R88). -/
def toggleOf (P : Proto) (s : State) : Bool :=
  match P with
  | .rc5 => s.toggleRc5
  | .rc6 => s.toggleRc6
  | _ => false

/-- `TOGGLE[P] <- v`; nothing for a protocol that has none. -/
def setToggle (P : Proto) (v : Bool) (s : State) : State :=
  match P with
  | .rc5 => { s with toggleRc5 := v }
  | .rc6 => { s with toggleRc6 := v }
  | _ => s

/-- The toggle bit of a SEND or SENDN: `TOGGLE[proto]` when `auto = 1` and the protocol has one, else `CW.tgl`
(R88, R134 step 2). -/
def sendToggle (P : Proto) (auto tgl : Bool) (s : State) : Bool :=
  if auto && hasToggle P then toggleOf P s else tgl

/-- The flip after a successful SEND or SENDN with `auto = 1` (R134 step 10, R136 step 10). -/
def flipToggle (P : Proto) (auto : Bool) (s : State) : State :=
  if auto && hasToggle P then setToggle P (!toggleOf P s) s else s

/-- Entering the critical section (R121): `IESAVE <- IE`; `IE <- 0`; append `Idle`. -/
def critEnter (s : State) : State :=
  { s with iesave := s.ie, ie := false, wave := s.wave ++ [.idle] }

/-- Leaving the critical section (R122): `IE <- IESAVE`. -/
def critExit (s : State) : State :=
  { s with ie := s.iesave }

/-- What the output port `PIN` carries (R28). -/
inductive Pin where
  /-- The inactive level: LED off. -/
  | inactive
  /-- A rectangular wave of this frequency, active this percentage of each period. -/
  | wave (freq : Word) (duty : Duty)
deriving DecidableEq, Repr

/-- The output port follows `CARRIER` (R28). -/
def State.pin (s : State) : Pin :=
  if s.carrier then .wave s.cfreq s.cduty else .inactive

end Sys2Proof.Machine
end

