-- ==== Sys2Proof/Machine/Illegal.lean ====
section
/-! DEFINITION. Illegal command words (30_encoding R64): the meaning of the rows ILLEGAL.OP<n>, and of the words that
match no row. -/

namespace Sys2Proof.Machine

/-- A reserved operation code (R64 row 2). -/
def illegalOp (s : State) : State := raise .invalidArgument s

/-- A word that decodes to no row (R64): a command word raises its result and changes no state but `ERR`, and for
ENCODE, SEND and SENDN perhaps `RES0` (`raiseIllegal`, log 12); a word at the carrier capability interface that is no
micro-operation has no meaning (R64 row 8; log 11). -/
def execIllegal (e : Illegal) (s : State) : Host.Outcome State Fault Refusal :=
  match e with
  | .reservedBits op => .next (raiseIllegal params op .reservedBits .invalidArgument s)
  | .noSuchProtocol op _ => .next (raiseIllegal params op .noSuchProtocol .unsupportedProtocol s)
  | .noToggleBit _ => .next (raise .invalidArgument s)
  | .microNone => .refused .noSuchMicroOperation
  | .microOperand _ => .refused .noSuchMicroOperation

/-- ILLEGAL.OP0 (R64). -/
def execIllegalOp0 (s : State) : Host.Outcome State Fault Refusal :=
  .next (illegalOp s)

/-- ILLEGAL.OP9 (R64). -/
def execIllegalOp9 (s : State) : Host.Outcome State Fault Refusal :=
  .next (illegalOp s)

/-- ILLEGAL.OP10 (R64). -/
def execIllegalOp10 (s : State) : Host.Outcome State Fault Refusal :=
  .next (illegalOp s)

/-- ILLEGAL.OP11 (R64). -/
def execIllegalOp11 (s : State) : Host.Outcome State Fault Refusal :=
  .next (illegalOp s)

/-- ILLEGAL.OP12 (R64). -/
def execIllegalOp12 (s : State) : Host.Outcome State Fault Refusal :=
  .next (illegalOp s)

/-- ILLEGAL.OP13 (R64). -/
def execIllegalOp13 (s : State) : Host.Outcome State Fault Refusal :=
  .next (illegalOp s)

/-- ILLEGAL.OP14 (R64). -/
def execIllegalOp14 (s : State) : Host.Outcome State Fault Refusal :=
  .next (illegalOp s)

/-- ILLEGAL.OP15 (R64). -/
def execIllegalOp15 (s : State) : Host.Outcome State Fault Refusal :=
  .next (illegalOp s)

end Sys2Proof.Machine
end

