-- ==== Sys2Proof/Machine/Registry.lean ====
section
/-! DEFINITION. The registry lookups GETINFO and FROMNAME (40_registry R70 to R72). -/

namespace Sys2Proof.Machine

/-- `fold` of one byte: `A` to `Z` to `a` to `z`, every other byte as it is (R72). -/
def foldByte (b : Byte) : Byte :=
  if 0x41 ≤ b.toNat ∧ b.toNat ≤ 0x5A then b + 0x20 else b

/-- `fold(s)` (R72). -/
def foldName (s : List Byte) : List Byte := s.map foldByte

/-- The protocols in ascending code order (R71). -/
def allProtos : List Proto :=
  [.nec, .necExt, .sony, .rc5, .rc6, .samsung, .panasonic, .jvc, .lg,
   .mitsubishi, .sharp, .dish, .aiwa, .denon, .kaseikyo, .whynter, .coolix, .generic]

/-- The first protocol whose folded name is that of `s`, or GENERIC (R71). -/
def protoFromName (p : Params) (s : List Byte) : Proto :=
  (allProtos.find? fun P => decide (foldName s = foldName (p.name P))).getD .generic

/-- GETINFO (R70). -/
def getinfoOp (p : Params) (code : BitVec 5) (s : State) : State :=
  match protoOfCode code with
  | none => raise .notFound s
  | some P => raise .ok { s with resinfo := info p P }

/-- FROMNAME (R71). -/
def fromnameOp (p : Params) (s : State) : State :=
  raise .ok { s with res0 := (protoCode (protoFromName p (operandName s))).setWidth 32 }

/-- GETINFO (R70). -/
def execGetinfo (proto : BitVec 5) (s : State) : Host.Outcome State Fault Refusal :=
  .next (getinfoOp params proto s)

/-- FROMNAME (R71). -/
def execFromname (s : State) : Host.Outcome State Fault Refusal :=
  .next (fromnameOp params s)

end Sys2Proof.Machine
end

