-- ==== Sys2Proof/Machine/Operands.lean ====
section
/-! DEFINITION. Operand assembly of the encoder: the arithmetic of 00_scope R7, R8 and 41_encoder R87, the declared
widths of 30_encoding R61, the masking of R62, the minimum capacities of 40_registry R75. -/

namespace Sys2Proof.Machine

/-- `mask_n(v) = v mod 2^n` (R7). -/
def mask (n v : Nat) : Nat := v % 2 ^ n

/-- `not_8(v) = 255 - mask_8(v)` (R87). -/
def not8 (v : Nat) : Nat := 255 - mask 8 v

/-- `bits_lsb(v, n)`: the `n` low bits, least significant first (R8). -/
def bitsLsb (v n : Nat) : List Bool := (List.range n).map v.testBit

/-- `bits_msb(v, n)`: the `n` low bits, most significant first (R8). -/
def bitsMsb (v n : Nat) : List Bool := (bitsLsb v n).reverse

/-- `xor_all(L)`: the sum modulo 2 of the bits (R7). -/
def xorAll (L : List Bool) : Bool := L.foldr xor false

/-- What selects a frame rule: the fields of `CW` that ENCODE, SEND and SENDN read (R53), `tgl` being the toggle bit
`t` of R88. A field that the protocol does not read keeps its default. -/
structure FrameSel where
  proto : Proto
  var : SonyVar := .v12
  ext : Bool := false
  rpt : Bool := false
  tgl : Bool := false
deriving DecidableEq, Repr

/-- `WADDR` (R61). -/
def waddr (p : Params) (sel : FrameSel) : Nat :=
  match sel.proto with
  | .nec => 8
  | .necExt => 16
  | .sony =>
    match sel.var with
    | .v12 => 5
    | .v15 => 8
    | .v20 => 13
  | .rc5 => 5
  | .rc6 => 8
  | .sharp => 5
  | .panasonic => 16
  | .kaseikyo => 16
  | .coolix => 0
  | P => (addressBits p P).toNat

/-- `WCMD` (R61). -/
def wcmd (p : Params) (sel : FrameSel) : Nat :=
  match sel.proto with
  | .nec => 8
  | .necExt => 8
  | .sony => 7
  | .rc5 => if sel.ext then 7 else 6
  | .rc6 => 8
  | .sharp => 8
  | .panasonic => 32
  | .kaseikyo => 32
  | .coolix => 24
  | P => (commandBits p P).toNat

/-- `MINCAP` (R75); for a protocol with `ENC_EXT[P]` the one given with it. -/
def mincap (p : Params) (sel : FrameSel) : Nat :=
  match sel.proto with
  | .nec => 34
  | .necExt => 34
  | .sony =>
    match sel.var with
    | .v12 => 13
    | .v15 => 16
    | .v20 => 21
  | .rc5 => 14
  | .rc6 => 20
  | .panasonic => 49
  | .kaseikyo => 49
  | .sharp => 16
  | .coolix => 52
  | P => ((p.encExt P).map EncExt.minCap).getD 0

/-- Has the protocol a frame rule of its own (R81)? -/
def hasFrameRule : Proto → Bool
  | .nec | .necExt | .sony | .rc5 | .rc6 | .panasonic | .sharp | .kaseikyo | .coolix => true
  | _ => false

/-- `HASENC(P)` (R81): a frame rule of its own, or `ENC_EXT[P]` present. -/
def hasEnc (p : Params) (P : Proto) : Bool := hasFrameRule P || (p.encExt P).isSome

/-- The value fits in `n` bits (R82). -/
def fits (n : Nat) (v : Word) : Bool := decide (v.toNat < 2 ^ n)

end Sys2Proof.Machine
end

