-- ==== Sys2Proof/Machine/Wave.lean ====
section
/-! DEFINITION. The symbol word (30_encoding R51), durations, and the waveform of a symbol list: `WAVEOF` (43_carrier
R129), `DUR` (R130) and the normal form `norm` (10_state R30). -/

namespace Sys2Proof.Machine

/-- The packed form of a symbol: mark in bits 31..0, space in bits 63..32 (R51). -/
def symbolWord (v : Symbol) : BitVec 64 := v.space ++ v.mark

/-- The symbol of a packed word; every word is legal (R51). -/
def symbolOfWord (w : BitVec 64) : Symbol := ⟨w.extractLsb' 0 32, w.extractLsb' 32 32⟩

/-- `DUR(S)`: the sum of all marks and spaces, a natural number (R87, R130). -/
def dur (S : List Symbol) : Nat := (S.map fun v => v.mark.toNat + v.space.toNat).sum

/-- The item a mark of `n` microseconds leaves: none when `n = 0` (R128, R129). -/
def markItems (f : Word) (d : Duty) (n : Word) : List WaveItem :=
  if n = 0 then [] else [.on f d n.toNat]

/-- The item a space of `n` microseconds leaves: none when `n = 0` (R128, R129). -/
def spaceItems (n : Word) : List WaveItem :=
  if n = 0 then [] else [.off n.toNat]

/-- `WAVEOF(S, f, d)` (R129). -/
def waveOf (f : Word) (d : Duty) : List Symbol → List WaveItem
  | [] => []
  | v :: rest => markItems f d v.mark ++ (spaceItems v.space ++ waveOf f d rest)

/-- The duration a waveform fixes: the sum over its items, `Idle` counting nothing (R130). -/
def waveDur : List WaveItem → Nat
  | [] => 0
  | .on _ _ n :: rest => n + waveDur rest
  | .off n :: rest => n + waveDur rest
  | .idle :: rest => waveDur rest

/-- Put an item before a normal form, merging it with the first item where R30 says so. -/
def normCons : WaveItem → List WaveItem → List WaveItem
  | .on f d n, .on f' d' n' :: rest =>
    if f = f' ∧ d = d' then .on f d (n + n') :: rest else .on f d n :: .on f' d' n' :: rest
  | .off n, .off n' :: rest => .off (n + n') :: rest
  | .idle, .idle :: rest => .idle :: rest
  | x, rest => x :: rest

/-- `norm(W)` (R30). -/
def norm (W : List WaveItem) : List WaveItem := W.foldr normCons []

end Sys2Proof.Machine
end

