-- ==== Sys2Proof/Machine/Frames.lean ====
section
/-! DEFINITION. The frame rules of the pulse-coded protocols (41_encoder R84 to R97). Each takes the catalog entry it
reads, and the masked address and command. -/

namespace Sys2Proof.Machine

/-- `HDR(P)` (R84). -/
def hdr (t : TimingSpec) : List Symbol := [⟨t.headerMarkUs, t.headerSpaceUs⟩]

/-- `BIT(P, b)` (R85). -/
def bitSymbol (t : TimingSpec) (b : Bool) : Symbol :=
  if b then ⟨t.bitOneMarkUs, t.bitOneSpaceUs⟩ else ⟨t.bitZeroMarkUs, t.bitZeroSpaceUs⟩

/-- `BITS(P, L)` (R85). -/
def bitSymbols (t : TimingSpec) (L : List Bool) : List Symbol := L.map (bitSymbol t)

/-- `STOP(P)` (R86). -/
def stop (t : TimingSpec) : List Symbol :=
  match t.stopBitUs with
  | some n => [⟨n, 0⟩]
  | none => []

/-- The 32 data bits of an NEC frame (R89). -/
def necBits (a c : Nat) : List Bool :=
  bitsLsb a 8 ++ bitsLsb (not8 a) 8 ++ bitsLsb c 8 ++ bitsLsb (not8 c) 8

/-- `FRAME_NEC` (R89). -/
def frameNec (t : TimingSpec) (a c : Nat) : List Symbol :=
  hdr t ++ bitSymbols t (necBits a c) ++ stop t

/-- The 32 data bits of an NEC Extended frame (R90). -/
def necExtBits (a c : Nat) : List Bool :=
  bitsLsb a 16 ++ bitsLsb c 8 ++ bitsLsb (not8 c) 8

/-- `FRAME_NEC_EXT` (R90). -/
def frameNecExt (t : TimingSpec) (a c : Nat) : List Symbol :=
  hdr t ++ bitSymbols t (necExtBits a c) ++ stop t

/-- `FRAME_RPT(P)` (R91, D14): the `rpt` mark and space, then `STOP(P)`, for every protocol with `has_repeat`. R79 says of
SONY, PANASONIC and KASEIKYO that `stop_bit_us` is never read; that this speaks of their own frame rules, which R86 names
beside the repeat frame, is DEDUCED (log 26). -/
def frameRpt (t : TimingSpec) (x : TimingExt) : List Symbol :=
  ⟨x.rptMarkUs, x.rptSpaceUs⟩ :: stop t

/-- The data bits of a Sony frame with `wa` address bits (R92). -/
def sonyBits (wa a c : Nat) : List Bool := bitsLsb c 7 ++ bitsLsb a wa

/-- `FRAME_SONY` with `wa` address bits (R92). -/
def frameSony (t : TimingSpec) (wa a c : Nat) : List Symbol :=
  hdr t ++ bitSymbols t (sonyBits wa a c)

/-- The 13 address and command bits of a Sharp frame (R93). -/
def sharpData (a c : Nat) : List Bool := bitsMsb a 5 ++ bitsMsb c 8

/-- `FRAME_SHARP` (R93): data, expansion bit 0, check bit. -/
def frameSharp (t : TimingSpec) (a c : Nat) : List Symbol :=
  bitSymbols t (sharpData a c ++ [false, xorAll (sharpData a c)]) ++ stop t

/-- The 48 data bits of a Panasonic or Kaseikyo frame (R94, R95). -/
def panasonicBits (a c : Nat) : List Bool := bitsLsb a 16 ++ bitsLsb c 32

/-- `FRAME_PANASONIC` (R94). -/
def framePanasonic (t : TimingSpec) (a c : Nat) : List Symbol :=
  hdr t ++ bitSymbols t (panasonicBits a c)

/-- `FRAME_KASEIKYO` (R95): the structure of R94, read from the catalog entry of KASEIKYO. -/
def frameKaseikyo (t : TimingSpec) (a c : Nat) : List Symbol :=
  hdr t ++ bitSymbols t (panasonicBits a c)

/-- One copy of the Coolix data, `G` (R96). -/
def coolixCopy (t : TimingSpec) (c : Nat) : List Symbol :=
  hdr t ++ bitSymbols t (bitsLsb c 24)

/-- `FRAME_COOLIX` (R96). R79 demands the stop duration; without it R96 gives no footer mark, and `getD` is not
reached with legal parameters (log 6). -/
def frameCoolix (t : TimingSpec) (x : TimingExt) (c : Nat) : List Symbol :=
  coolixCopy t c ++ [⟨t.stopBitUs.getD 0, x.footerSpaceUs⟩] ++ coolixCopy t c ++ stop t

end Sys2Proof.Machine
end

