-- ==== Sys2Proof/Machine/Manchester.lean ====
section
/-! DEFINITION. The frame rules of the Manchester-coded protocols, RC5 and RC6 (42_manchester R109 to R115): cells of
two runs, merging of equal levels, packing into symbols. -/

namespace Sys2Proof.Machine

/-- A run: a level, `true` for mark, and a duration in microseconds (R110). -/
structure Run where
  level : Bool
  us : Nat
deriving DecidableEq, Repr

/-- The half-bit time `HB(P) = T[P].bit_one_mark_us` (R110). -/
def halfBit (t : TimingSpec) : Nat := t.bitOneMarkUs.toNat

/-- `CELL(P, b, w)` (R111): two runs of `w * HB`. `first b` is the level of the first half of bit `b`: a 1 starts with
a space in RC5 and with a mark in RC6. -/
def cell (first : Bool → Bool) (hb : Nat) (b : Bool) (w : Nat) : List Run :=
  [⟨first b, w * hb⟩, ⟨!first b, w * hb⟩]

/-- The first level of an RC5 cell (R111): 1 is space then mark. -/
def rc5First (b : Bool) : Bool := !b

/-- The first level of an RC6 cell (R111): 1 is mark then space. -/
def rc6First (b : Bool) : Bool := b

/-- The cells of a list of ordinary bits. -/
def cells (first : Bool → Bool) (hb : Nat) (L : List Bool) : List Run :=
  L.flatMap fun b => cell first hb b 1

/-- One round of `MERGE` (R112): a run of no length is skipped, one of the last run's level lengthens it, any other
is appended. -/
def mergeRun (M : List Run) (r : Run) : List Run :=
  if r.us = 0 then M
  else
    match M.getLast? with
    | some l => if l.level = r.level then M.dropLast ++ [⟨l.level, l.us + r.us⟩] else M ++ [r]
    | none => [r]

/-- `MERGE(R)` (R112). -/
def merge (R : List Run) : List Run := R.foldl mergeRun []

/-- A leading space is dropped (R112). -/
def dropLeadingSpace : List Run → List Run
  | r :: rest => if r.level then r :: rest else rest
  | [] => []

/-- Runs of alternating levels, a mark first, as symbols; a last mark gets a space of 0 (R112). A duration is narrowed
to 32 bits, which changes it only outside the premise of R87 (log 18). -/
def pairRuns : List Run → List Symbol
  | m :: s :: rest => ⟨BitVec.ofNat 32 m.us, BitVec.ofNat 32 s.us⟩ :: pairRuns rest
  | [m] => [⟨BitVec.ofNat 32 m.us, 0⟩]
  | [] => []

/-- `PACK(R)` (R112). -/
def pack (R : List Run) : List Symbol := pairRuns (dropLeadingSpace (merge R))

/-- The 14 bits of an RC5 frame: two start bits, toggle, address, command (R113). -/
def rc5Bits (a c : Nat) (t : Bool) : List Bool := [true, true, t] ++ bitsMsb a 5 ++ bitsMsb c 6

/-- The 14 bits of an extended RC5 frame: the second start bit is the inverted bit 6 of the command (R114). -/
def rc5xBits (a c : Nat) (t : Bool) : List Bool :=
  [true, !c.testBit 6, t] ++ bitsMsb a 5 ++ bitsMsb (mask 6 c) 6

/-- `FRAME_RC5` (R113). -/
def frameRc5 (ts : TimingSpec) (a c : Nat) (t : Bool) : List Symbol :=
  pack (cells rc5First (halfBit ts) (rc5Bits a c t))

/-- `FRAME_RC5X` (R114). -/
def frameRc5x (ts : TimingSpec) (a c : Nat) (t : Bool) : List Symbol :=
  pack (cells rc5First (halfBit ts) (rc5xBits a c t))

/-- The runs of an RC6 frame (R115): header, start bit, mode bits 000, double-width toggle, address, command. -/
def rc6Runs (ts : TimingSpec) (a c : Nat) (t : Bool) : List Run :=
  [⟨true, ts.headerMarkUs.toNat⟩, ⟨false, ts.headerSpaceUs.toNat⟩]
    ++ cells rc6First (halfBit ts) [true, false, false, false]
    ++ cell rc6First (halfBit ts) t 2
    ++ cells rc6First (halfBit ts) (bitsMsb a 8)
    ++ cells rc6First (halfBit ts) (bitsMsb c 8)

/-- `FRAME_RC6` (R115). -/
def frameRc6 (ts : TimingSpec) (a c : Nat) (t : Bool) : List Symbol := pack (rc6Runs ts a c t)

end Sys2Proof.Machine
end

