-- ==== Sys2Proof/Machine/Encoder.lean ====
section
/-! DEFINITION. The Symbol Encoder: the dispatch to the frame rules, the checks of ENCODE in their order (41_encoder
R81), and the meaning of every row `ENCODE.*`. -/

namespace Sys2Proof.Machine

/-- The data frame of a protocol (R89, R90, R92 to R97, R113 to R115) for the masked address and command. The last
arm is `ENC_EXT[P]`; it is not reached without one, since `HASENC` is checked first. -/
def dataFrame (p : Params) (sel : FrameSel) (a c : Nat) : List Symbol :=
  match sel.proto with
  | .nec => frameNec (p.timing .nec) a c
  | .necExt => frameNecExt (p.timing .necExt) a c
  | .sony => frameSony (p.timing .sony) (waddr p sel) a c
  | .rc5 =>
    if sel.ext then frameRc5x (p.timing .rc5) a c sel.tgl else frameRc5 (p.timing .rc5) a c sel.tgl
  | .rc6 => frameRc6 (p.timing .rc6) a c sel.tgl
  | .sharp => frameSharp (p.timing .sharp) a c
  | .panasonic => framePanasonic (p.timing .panasonic) a c
  | .kaseikyo => frameKaseikyo (p.timing .kaseikyo) a c
  | .coolix => frameCoolix (p.timing .coolix) (p.ext .coolix) c
  | P =>
    match p.encExt P with
    | some e => e.frame a c
    | none => []

/-- The repeat frame of a protocol (R91), whichever protocol it is: for SONY, PANASONIC and KASEIKYO, R91, R86 and D14 are
followed beside R79 (DEDUCED, log 26). -/
def repeatFrame (p : Params) (P : Proto) : List Symbol := frameRpt (p.timing P) (p.ext P)

/-- `FRAME(...)` (R81 step 9): the repeat frame when `rpt = 1` and the protocol has one, else the data frame (R91). -/
def frame (p : Params) (sel : FrameSel) (a c : Nat) : List Symbol :=
  if sel.rpt && hasRepeat p sel.proto then repeatFrame p sel.proto else dataFrame p sel a c

/-- ENCODE steps 2 to 10 (R81) on an address, a command and a capacity: the frame, or the result that is raised. Step
1 and step 3 are the decoder's: their words are other rows or no row. -/
def encodeFrame (p : Params) (sel : FrameSel) (x0 x1 : Word) (cap : Nat) : Except ResultCode (List Symbol) :=
  if hasEnc p sel.proto = false then .error .unsupportedProtocol
  else if p.strict && !(fits (waddr p sel) x0 && fits (wcmd p sel) x1) then .error .invalidArgument
  else if p.nsym < cap then .error .invalidArgument
  else if cap < mincap p sel then .error .bufferTooSmall
  else
    let F := frame p sel (mask (waddr p sel) x0.toNat) (mask (wcmd p sel) x1.toNat)
    if cap < F.length then .error .bufferTooSmall else .ok F

/-- ENCODE (R81): the frame is stored, or the result is raised with `RES0 <- 0`. -/
def encodeOp (p : Params) (sel : FrameSel) (s : State) : State :=
  match encodeFrame p sel s.opa s.opc s.opcap.toNat with
  | .error e => raiseNoFrame e s
  | .ok F => raise .ok (storeFrame F s)

/-! ## The rows ENCODE.* -/

/-- ENCODE.NEC (R89). -/
def execEncodeNec (s : State) : Host.Outcome State Fault Refusal :=
  .next (encodeOp params { proto := .nec } s)

/-- ENCODE.NEC.RPT (R91). -/
def execEncodeNecRpt (s : State) : Host.Outcome State Fault Refusal :=
  .next (encodeOp params { proto := .nec, rpt := true } s)

/-- ENCODE.NEC_EXT (R90). -/
def execEncodeNecExt (rpt : Bool) (s : State) : Host.Outcome State Fault Refusal :=
  .next (encodeOp params { proto := .necExt, rpt := rpt } s)

/-- ENCODE.SONY.12 (R92). -/
def execEncodeSony12 (rpt : Bool) (s : State) : Host.Outcome State Fault Refusal :=
  .next (encodeOp params { proto := .sony, var := .v12, rpt := rpt } s)

/-- ENCODE.SONY.15 (R92). -/
def execEncodeSony15 (rpt : Bool) (s : State) : Host.Outcome State Fault Refusal :=
  .next (encodeOp params { proto := .sony, var := .v15, rpt := rpt } s)

/-- ENCODE.SONY.20 (R92). -/
def execEncodeSony20 (rpt : Bool) (s : State) : Host.Outcome State Fault Refusal :=
  .next (encodeOp params { proto := .sony, var := .v20, rpt := rpt } s)

/-- ENCODE.SONY.VAR3: the reserved Sony variant (R64, R81 step 3; what `RES0` becomes: log 12). -/
def execEncodeSonyVar3 (s : State) : Host.Outcome State Fault Refusal :=
  .next (raiseIllegal params 4 .sonyVar3 .invalidArgument s)

/-- ENCODE.RC5 (R113). -/
def execEncodeRc5 (tgl rpt : Bool) (s : State) : Host.Outcome State Fault Refusal :=
  .next (encodeOp params { proto := .rc5, rpt := rpt, tgl := tgl } s)

/-- ENCODE.RC5.X (R114). -/
def execEncodeRc5X (tgl rpt : Bool) (s : State) : Host.Outcome State Fault Refusal :=
  .next (encodeOp params { proto := .rc5, ext := true, rpt := rpt, tgl := tgl } s)

/-- ENCODE.RC6 (R115). -/
def execEncodeRc6 (tgl rpt : Bool) (s : State) : Host.Outcome State Fault Refusal :=
  .next (encodeOp params { proto := .rc6, rpt := rpt, tgl := tgl } s)

/-- ENCODE.SAMSUNG (R98). -/
def execEncodeSamsung (rpt : Bool) (s : State) : Host.Outcome State Fault Refusal :=
  .next (encodeOp params { proto := .samsung, rpt := rpt } s)

/-- ENCODE.PANASONIC (R94). -/
def execEncodePanasonic (rpt : Bool) (s : State) : Host.Outcome State Fault Refusal :=
  .next (encodeOp params { proto := .panasonic, rpt := rpt } s)

/-- ENCODE.JVC (R99). -/
def execEncodeJvc (rpt : Bool) (s : State) : Host.Outcome State Fault Refusal :=
  .next (encodeOp params { proto := .jvc, rpt := rpt } s)

/-- ENCODE.LG (R100). -/
def execEncodeLg (rpt : Bool) (s : State) : Host.Outcome State Fault Refusal :=
  .next (encodeOp params { proto := .lg, rpt := rpt } s)

/-- ENCODE.MITSUBISHI (R101). -/
def execEncodeMitsubishi (rpt : Bool) (s : State) : Host.Outcome State Fault Refusal :=
  .next (encodeOp params { proto := .mitsubishi, rpt := rpt } s)

/-- ENCODE.SHARP (R93). -/
def execEncodeSharp (rpt : Bool) (s : State) : Host.Outcome State Fault Refusal :=
  .next (encodeOp params { proto := .sharp, rpt := rpt } s)

/-- ENCODE.DISH (R102). -/
def execEncodeDish (rpt : Bool) (s : State) : Host.Outcome State Fault Refusal :=
  .next (encodeOp params { proto := .dish, rpt := rpt } s)

/-- ENCODE.AIWA (R103). -/
def execEncodeAiwa (rpt : Bool) (s : State) : Host.Outcome State Fault Refusal :=
  .next (encodeOp params { proto := .aiwa, rpt := rpt } s)

/-- ENCODE.DENON (R104). -/
def execEncodeDenon (rpt : Bool) (s : State) : Host.Outcome State Fault Refusal :=
  .next (encodeOp params { proto := .denon, rpt := rpt } s)

/-- ENCODE.KASEIKYO (R95). -/
def execEncodeKaseikyo (rpt : Bool) (s : State) : Host.Outcome State Fault Refusal :=
  .next (encodeOp params { proto := .kaseikyo, rpt := rpt } s)

/-- ENCODE.WHYNTER (R105). -/
def execEncodeWhynter (rpt : Bool) (s : State) : Host.Outcome State Fault Refusal :=
  .next (encodeOp params { proto := .whynter, rpt := rpt } s)

/-- ENCODE.COOLIX (R96). -/
def execEncodeCoolix (rpt : Bool) (s : State) : Host.Outcome State Fault Refusal :=
  .next (encodeOp params { proto := .coolix, rpt := rpt } s)

/-- ENCODE.GENERIC (R106). -/
def execEncodeGeneric (rpt : Bool) (s : State) : Host.Outcome State Fault Refusal :=
  .next (encodeOp params { proto := .generic, rpt := rpt } s)

end Sys2Proof.Machine
end

