-- ==== Sys2Proof/Machine/Carrier.lean ====
section
/-! DEFINITION. The Carrier Transmitter (43_carrier R118 to R131): the micro-operations, the symbol sequencer as one
big step (R124) and in small steps (R125), INIT and TRANSMIT. -/

namespace Sys2Proof.Machine

/-! ## Micro-operations -/

/-- CEN (R126). The sequencer always issues `CEN(CDUTY)`; the operand is the duty of the wave on the pin and no state
element holds it. -/
def cen (_d : Duty) (s : State) : State := { s with carrier := true }

/-- CDIS (R127). -/
def cdis (s : State) : State := { s with carrier := false }

/-- The items `DLY(n)` appends to `WAVE` (R128). -/
def dlyItems (n : Word) (s : State) : List WaveItem :=
  if n = 0 then []
  else if s.carrier then [.on s.cfreq s.cduty n.toNat]
  else [.off n.toNat]

/-- DLY (R128). -/
def dly (n : Word) (s : State) : State := { s with wave := s.wave ++ dlyItems n s }

/-! ## The sequencer, big step (R124) -/

/-- A phase begins: the position, and the microseconds that remain of it (R24, R25). -/
def startPhase (ph : Phase) (i : Nat) (n : Word) (s : State) : State :=
  { s with phase := ph, idx := BitVec.ofNat 32 i, rem := n }

/-- A phase is done: nothing of it remains (R25). -/
def endPhase (s : State) : State := { s with rem := 0 }

/-- The mark phase of symbol `i` (R124). -/
def markPhase (i : Nat) (n : Word) (s : State) : State :=
  endPhase (dly n (cen s.cduty (startPhase .mark i n s)))

/-- The space phase of symbol `i` (R124). -/
def spacePhase (i : Nat) (n : Word) (s : State) : State :=
  endPhase (dly n (cdis (startPhase .space i n s)))

/-- The loop of `SEQ` from index `i` on (R124): strictly in index order, each symbol once. -/
def seqFrom : Nat → List Symbol → State → State
  | _, [], s => s
  | i, v :: rest, s => seqFrom (i + 1) rest (spacePhase i v.space (markPhase i v.mark s))

/-- `SEQ(S)` (R124). -/
def seq (S : List Symbol) (s : State) : State :=
  { seqFrom 0 S { s with len := BitVec.ofNat 32 S.length } with phase := .idle }

/-- One frame on the pin: enter the critical section, run the sequencer, leave it (R120 steps 8 to 10). -/
def emit (S : List Symbol) (s : State) : State := critExit (seq S (critEnter s))

/-! ## The sequencer, small step (R125)

While `PHASE != IDLE` the sequencer moves one phase further when its micro-operation words have been taken: it issues
the two words of the next phase, or ends the transmission. `startSeq` is the move out of `IDLE` at step 9 of
TRANSMIT. The big step `seq` and these moves give the same state (an obligation). -/

/-- The words of a mark phase (R124, R125). -/
def markWords (d : Duty) (n : Word) : List (BitVec 34) := [cenWord d, dlyWord n]

/-- The words of a space phase (R124, R125). -/
def spaceWords (n : Word) : List (BitVec 34) := [cdisWord, dlyWord n]

/-- The move out of `IDLE` with the symbols `S` of `SYM[0 .. n-1]` (R125 rows 1 and 2). -/
def startSeq (S : List Symbol) (s : State) : State :=
  match S with
  | [] => { s with len := 0 }
  | v :: _ =>
    { startPhase .mark 0 v.mark { s with len := BitVec.ofNat 32 S.length } with
      uport := markWords s.cduty v.mark }

/-- The end of a TRANSMIT (R125 row 5, then R120 steps 10 and 11). -/
def endSeq (s : State) : State := raise .ok (critExit { s with phase := .idle })

/-- The move out of `(MARK, i)` done and `(SPACE, i)` done (R125 rows 3 to 5). -/
def advanceSeq (s : State) : Host.Outcome State Fault Refusal :=
  match s.phase with
  | .idle => .next s
  | .mark =>
    match symGet s.sym s.idx.toNat with
    | none => .fault (.unwrittenSymbol s.idx.toNat)
    | some v => .next { startPhase .space s.idx.toNat v.space s with uport := spaceWords v.space }
  | .space =>
    if s.idx.toNat + 1 < s.len.toNat then
      match symGet s.sym (s.idx.toNat + 1) with
      | none => .fault (.unwrittenSymbol (s.idx.toNat + 1))
      | some v => .next { startPhase .mark (s.idx.toNat + 1) v.mark s with uport := markWords s.cduty v.mark }
    else .next (endSeq s)

/-- The first word issued is taken from the interface; a DLY leaves nothing of its phase (R25, R60). -/
def takeMicro (u : BitVec 34) (rest : List (BitVec 34)) (s : State) : State :=
  { s with uport := rest, rem := if uwUop u = 3 then 0 else s.rem }

/-! ## INIT and TRANSMIT -/

/-- INIT (R119). -/
def initOp (p : Params) (s : State) : State :=
  if s.opfreq = 0 ∨ 100 < s.opduty.toNat then raise .invalidArgument s
  else if p.hwOk s.draws then
    raise .ok { configure s.opfreq (s.opduty.setWidth 7) (attempt s) with carrier := false, init := true, fault := false }
  else raise .hwFailure { hwFailed (attempt s) with carrier := false }

/-- TRANSMIT (R120). -/
def transmitOp (p : Params) (s : State) : Host.Outcome State Fault Refusal :=
  if s.opfreq = 0 ∨ 100 < s.opduty.toNat ∨ p.nsym < s.oplen.toNat then .next (raise .invalidArgument s)
  else if s.init = false then .next (raise .notInitialized s)
  else if p.hwOk s.draws then
    match memRead s.sym 0 s.oplen.toNat with
    | .error k => .fault (.unwrittenSymbol k)
    | .ok S => .next (raise .ok (emit S (configure s.opfreq (s.opduty.setWidth 7) (attempt s))))
  else .next (raise .hwFailure (hwFailed (attempt s)))

/-! ## The rows -/

/-- INIT (R119). -/
def execInit (s : State) : Host.Outcome State Fault Refusal :=
  .next (initOp params s)

/-- TRANSMIT (R120). -/
def execTransmit (s : State) : Host.Outcome State Fault Refusal :=
  transmitOp params s

/-- CEN (R126). -/
def execCen (duty : Duty) (s : State) : Host.Outcome State Fault Refusal :=
  .next (cen duty s)

/-- CDIS (R127). -/
def execCdis (s : State) : Host.Outcome State Fault Refusal :=
  .next (cdis s)

/-- DLY (R128). -/
def execDly (us : Word) (s : State) : Host.Outcome State Fault Refusal :=
  .next (dly us s)

end Sys2Proof.Machine
end

