-- ==== Sys2Proof/Machine/Session.lean ====
section
/-! DEFINITION. The Protocol Session (44_session R132 to R138): SEND, RSTTGL and SENDN, and the meaning of every row
of these three. -/

namespace Sys2Proof.Machine

/-- The frame of a SEND or SENDN: ENCODE steps 2 to 10 with the toggle of R134 step 2 and `NSYM` in the place of
`x[2]` (R134 step 3, R136 step 3). -/
def sendFrame (p : Params) (sel : FrameSel) (auto : Bool) (s : State) : Except ResultCode (List Symbol) :=
  encodeFrame p { sel with tgl := sendToggle sel.proto auto sel.tgl s } s.opa s.opc p.nsym

/-- The PWM configured with the carrier of the catalog (R134 step 7). -/
def configureFor (p : Params) (P : Proto) (s : State) : State :=
  configure (p.timing P).carrierFreqHz (p.timing P).dutyCyclePercent s

/-- A frame is stored and then emitted (R134 steps 8 and 9, one round of R136 step 9). -/
def sendOne (F : List Symbol) (s : State) : State := emit F (storeFrame F s)

/-- The frames after the first (R136 step 9): before each, the gap with the carrier off and the interrupts as before
the call. -/
def sendRepeats (gap : Word) (FR : List Symbol) : Nat → State → State
  | 0, s => s
  | k + 1, s => sendRepeats gap FR k (sendOne FR (dly gap s))

/-- The frames 2 to `N` of a SENDN (R136 step 5). -/
def repeatOf (p : Params) (P : Proto) (F : List Symbol) : List Symbol :=
  if hasRepeat p P then repeatFrame p P else F

/-- The checks and the configuration that SEND and SENDN share (R134 steps 3 to 7, R136 steps 3 to 8), then the
emission `out` of the frame, the flip of the toggle and the result. -/
def sendWith (p : Params) (sel : FrameSel) (auto : Bool) (out : List Symbol → State → State) (s : State) : State :=
  match sendFrame p sel auto s with
  | .error e => raiseNoFrame e s
  | .ok F =>
    if s.init = false then raiseNoFrame .notInitialized s
    else if p.hwOk s.draws then
      raise .ok (flipToggle sel.proto auto (out F (configureFor p sel.proto (attempt s))))
    else raiseNoFrame .hwFailure (hwFailed (attempt s))

/-- SEND (R134). -/
def sendOp (p : Params) (sel : FrameSel) (auto : Bool) (s : State) : State :=
  sendWith p sel auto sendOne s

/-- The emission of a SENDN (R136 step 9). -/
def sendAll (p : Params) (P : Proto) (F : List Symbol) (s : State) : State :=
  sendRepeats (p.rptGapUs P) (repeatOf p P F) (p.rptCount P - 1) (sendOne F s)

/-- SENDN (R136). -/
def sendnOp (p : Params) (sel : FrameSel) (auto : Bool) (s : State) : State :=
  sendWith p sel auto (sendAll p sel.proto) s

/-- RSTTGL of a protocol with a toggle bit (R135). -/
def rsttglOp (P : Proto) (s : State) : State := raise .ok (setToggle P false s)

/-! ## The rows SEND.* -/

/-- SEND.NEC (R134). -/
def execSendNec (s : State) : Host.Outcome State Fault Refusal :=
  .next (sendOp params { proto := .nec } false s)

/-- SEND.NEC.RPT (R134). -/
def execSendNecRpt (s : State) : Host.Outcome State Fault Refusal :=
  .next (sendOp params { proto := .nec, rpt := true } false s)

/-- SEND.NEC_EXT (R134). -/
def execSendNecExt (rpt : Bool) (s : State) : Host.Outcome State Fault Refusal :=
  .next (sendOp params { proto := .necExt, rpt := rpt } false s)

/-- SEND.SONY.12 (R134). -/
def execSendSony12 (rpt : Bool) (s : State) : Host.Outcome State Fault Refusal :=
  .next (sendOp params { proto := .sony, var := .v12, rpt := rpt } false s)

/-- SEND.SONY.15 (R134). -/
def execSendSony15 (rpt : Bool) (s : State) : Host.Outcome State Fault Refusal :=
  .next (sendOp params { proto := .sony, var := .v15, rpt := rpt } false s)

/-- SEND.SONY.20 (R134). -/
def execSendSony20 (rpt : Bool) (s : State) : Host.Outcome State Fault Refusal :=
  .next (sendOp params { proto := .sony, var := .v20, rpt := rpt } false s)

/-- SEND.SONY.VAR3: the reserved Sony variant (R64, R81 step 3; what `RES0` becomes: log 12). -/
def execSendSonyVar3 (s : State) : Host.Outcome State Fault Refusal :=
  .next (raiseIllegal params 6 .sonyVar3 .invalidArgument s)

/-- SEND.RC5 (R134). -/
def execSendRc5 (tgl auto rpt : Bool) (s : State) : Host.Outcome State Fault Refusal :=
  .next (sendOp params { proto := .rc5, rpt := rpt, tgl := tgl } auto s)

/-- SEND.RC5.X (R134). -/
def execSendRc5X (tgl auto rpt : Bool) (s : State) : Host.Outcome State Fault Refusal :=
  .next (sendOp params { proto := .rc5, ext := true, rpt := rpt, tgl := tgl } auto s)

/-- SEND.RC6 (R134). -/
def execSendRc6 (tgl auto rpt : Bool) (s : State) : Host.Outcome State Fault Refusal :=
  .next (sendOp params { proto := .rc6, rpt := rpt, tgl := tgl } auto s)

/-- SEND.SAMSUNG (R134). -/
def execSendSamsung (rpt : Bool) (s : State) : Host.Outcome State Fault Refusal :=
  .next (sendOp params { proto := .samsung, rpt := rpt } false s)

/-- SEND.PANASONIC (R134). -/
def execSendPanasonic (rpt : Bool) (s : State) : Host.Outcome State Fault Refusal :=
  .next (sendOp params { proto := .panasonic, rpt := rpt } false s)

/-- SEND.JVC (R134). -/
def execSendJvc (rpt : Bool) (s : State) : Host.Outcome State Fault Refusal :=
  .next (sendOp params { proto := .jvc, rpt := rpt } false s)

/-- SEND.LG (R134). -/
def execSendLg (rpt : Bool) (s : State) : Host.Outcome State Fault Refusal :=
  .next (sendOp params { proto := .lg, rpt := rpt } false s)

/-- SEND.MITSUBISHI (R134). -/
def execSendMitsubishi (rpt : Bool) (s : State) : Host.Outcome State Fault Refusal :=
  .next (sendOp params { proto := .mitsubishi, rpt := rpt } false s)

/-- SEND.SHARP (R134). -/
def execSendSharp (rpt : Bool) (s : State) : Host.Outcome State Fault Refusal :=
  .next (sendOp params { proto := .sharp, rpt := rpt } false s)

/-- SEND.DISH (R134). -/
def execSendDish (rpt : Bool) (s : State) : Host.Outcome State Fault Refusal :=
  .next (sendOp params { proto := .dish, rpt := rpt } false s)

/-- SEND.AIWA (R134). -/
def execSendAiwa (rpt : Bool) (s : State) : Host.Outcome State Fault Refusal :=
  .next (sendOp params { proto := .aiwa, rpt := rpt } false s)

/-- SEND.DENON (R134). -/
def execSendDenon (rpt : Bool) (s : State) : Host.Outcome State Fault Refusal :=
  .next (sendOp params { proto := .denon, rpt := rpt } false s)

/-- SEND.KASEIKYO (R134). -/
def execSendKaseikyo (rpt : Bool) (s : State) : Host.Outcome State Fault Refusal :=
  .next (sendOp params { proto := .kaseikyo, rpt := rpt } false s)

/-- SEND.WHYNTER (R134). -/
def execSendWhynter (rpt : Bool) (s : State) : Host.Outcome State Fault Refusal :=
  .next (sendOp params { proto := .whynter, rpt := rpt } false s)

/-- SEND.COOLIX (R134). -/
def execSendCoolix (rpt : Bool) (s : State) : Host.Outcome State Fault Refusal :=
  .next (sendOp params { proto := .coolix, rpt := rpt } false s)

/-- SEND.GENERIC (R134). -/
def execSendGeneric (rpt : Bool) (s : State) : Host.Outcome State Fault Refusal :=
  .next (sendOp params { proto := .generic, rpt := rpt } false s)

/-! ## The rows RSTTGL.* -/

/-- RSTTGL.RC5 (R135). -/
def execRsttglRc5 (s : State) : Host.Outcome State Fault Refusal :=
  .next (rsttglOp .rc5 s)

/-- RSTTGL.RC6 (R135). -/
def execRsttglRc6 (s : State) : Host.Outcome State Fault Refusal :=
  .next (rsttglOp .rc6 s)

/-! ## The rows SENDN.* -/

/-- SENDN.NEC (R136). -/
def execSendnNec (s : State) : Host.Outcome State Fault Refusal :=
  .next (sendnOp params { proto := .nec } false s)

/-- SENDN.NEC.RPT (R136). -/
def execSendnNecRpt (s : State) : Host.Outcome State Fault Refusal :=
  .next (sendnOp params { proto := .nec, rpt := true } false s)

/-- SENDN.NEC_EXT (R136). -/
def execSendnNecExt (rpt : Bool) (s : State) : Host.Outcome State Fault Refusal :=
  .next (sendnOp params { proto := .necExt, rpt := rpt } false s)

/-- SENDN.SONY.12 (R136). -/
def execSendnSony12 (rpt : Bool) (s : State) : Host.Outcome State Fault Refusal :=
  .next (sendnOp params { proto := .sony, var := .v12, rpt := rpt } false s)

/-- SENDN.SONY.15 (R136). -/
def execSendnSony15 (rpt : Bool) (s : State) : Host.Outcome State Fault Refusal :=
  .next (sendnOp params { proto := .sony, var := .v15, rpt := rpt } false s)

/-- SENDN.SONY.20 (R136). -/
def execSendnSony20 (rpt : Bool) (s : State) : Host.Outcome State Fault Refusal :=
  .next (sendnOp params { proto := .sony, var := .v20, rpt := rpt } false s)

/-- SENDN.SONY.VAR3: the reserved Sony variant (R64, R81 step 3; what `RES0` becomes: log 12). -/
def execSendnSonyVar3 (s : State) : Host.Outcome State Fault Refusal :=
  .next (raiseIllegal params 8 .sonyVar3 .invalidArgument s)

/-- SENDN.RC5 (R136). -/
def execSendnRc5 (tgl auto rpt : Bool) (s : State) : Host.Outcome State Fault Refusal :=
  .next (sendnOp params { proto := .rc5, rpt := rpt, tgl := tgl } auto s)

/-- SENDN.RC5.X (R136). -/
def execSendnRc5X (tgl auto rpt : Bool) (s : State) : Host.Outcome State Fault Refusal :=
  .next (sendnOp params { proto := .rc5, ext := true, rpt := rpt, tgl := tgl } auto s)

/-- SENDN.RC6 (R136). -/
def execSendnRc6 (tgl auto rpt : Bool) (s : State) : Host.Outcome State Fault Refusal :=
  .next (sendnOp params { proto := .rc6, rpt := rpt, tgl := tgl } auto s)

/-- SENDN.SAMSUNG (R136). -/
def execSendnSamsung (rpt : Bool) (s : State) : Host.Outcome State Fault Refusal :=
  .next (sendnOp params { proto := .samsung, rpt := rpt } false s)

/-- SENDN.PANASONIC (R136). -/
def execSendnPanasonic (rpt : Bool) (s : State) : Host.Outcome State Fault Refusal :=
  .next (sendnOp params { proto := .panasonic, rpt := rpt } false s)

/-- SENDN.JVC (R136). -/
def execSendnJvc (rpt : Bool) (s : State) : Host.Outcome State Fault Refusal :=
  .next (sendnOp params { proto := .jvc, rpt := rpt } false s)

/-- SENDN.LG (R136). -/
def execSendnLg (rpt : Bool) (s : State) : Host.Outcome State Fault Refusal :=
  .next (sendnOp params { proto := .lg, rpt := rpt } false s)

/-- SENDN.MITSUBISHI (R136). -/
def execSendnMitsubishi (rpt : Bool) (s : State) : Host.Outcome State Fault Refusal :=
  .next (sendnOp params { proto := .mitsubishi, rpt := rpt } false s)

/-- SENDN.SHARP (R136). -/
def execSendnSharp (rpt : Bool) (s : State) : Host.Outcome State Fault Refusal :=
  .next (sendnOp params { proto := .sharp, rpt := rpt } false s)

/-- SENDN.DISH (R136). -/
def execSendnDish (rpt : Bool) (s : State) : Host.Outcome State Fault Refusal :=
  .next (sendnOp params { proto := .dish, rpt := rpt } false s)

/-- SENDN.AIWA (R136). -/
def execSendnAiwa (rpt : Bool) (s : State) : Host.Outcome State Fault Refusal :=
  .next (sendnOp params { proto := .aiwa, rpt := rpt } false s)

/-- SENDN.DENON (R136). -/
def execSendnDenon (rpt : Bool) (s : State) : Host.Outcome State Fault Refusal :=
  .next (sendnOp params { proto := .denon, rpt := rpt } false s)

/-- SENDN.KASEIKYO (R136). -/
def execSendnKaseikyo (rpt : Bool) (s : State) : Host.Outcome State Fault Refusal :=
  .next (sendnOp params { proto := .kaseikyo, rpt := rpt } false s)

/-- SENDN.WHYNTER (R136). -/
def execSendnWhynter (rpt : Bool) (s : State) : Host.Outcome State Fault Refusal :=
  .next (sendnOp params { proto := .whynter, rpt := rpt } false s)

/-- SENDN.COOLIX (R136). -/
def execSendnCoolix (rpt : Bool) (s : State) : Host.Outcome State Fault Refusal :=
  .next (sendnOp params { proto := .coolix, rpt := rpt } false s)

/-- SENDN.GENERIC (R136). -/
def execSendnGeneric (rpt : Bool) (s : State) : Host.Outcome State Fault Refusal :=
  .next (sendnOp params { proto := .generic, rpt := rpt } false s)

end Sys2Proof.Machine
end

