-- ==== Sys2Proof/Machine/Dispatch.lean ====
section
/-! DEFINITION. The dispatch: one arm per instruction, each one direct call of its meaning. -/

namespace Sys2Proof.Machine

def exec (i : Instr) (s : State) : Host.Outcome State Fault Refusal :=
  match i with
  | .init => Sys2Proof.Machine.execInit s
  | .getinfo proto => Sys2Proof.Machine.execGetinfo proto s
  | .fromname => Sys2Proof.Machine.execFromname s
  | .encodeNec => Sys2Proof.Machine.execEncodeNec s
  | .encodeNecRpt => Sys2Proof.Machine.execEncodeNecRpt s
  | .encodeNecExt rpt => Sys2Proof.Machine.execEncodeNecExt rpt s
  | .encodeSony12 rpt => Sys2Proof.Machine.execEncodeSony12 rpt s
  | .encodeSony15 rpt => Sys2Proof.Machine.execEncodeSony15 rpt s
  | .encodeSony20 rpt => Sys2Proof.Machine.execEncodeSony20 rpt s
  | .encodeSonyVar3 => Sys2Proof.Machine.execEncodeSonyVar3 s
  | .encodeRc5 tgl rpt => Sys2Proof.Machine.execEncodeRc5 tgl rpt s
  | .encodeRc5X tgl rpt => Sys2Proof.Machine.execEncodeRc5X tgl rpt s
  | .encodeRc6 tgl rpt => Sys2Proof.Machine.execEncodeRc6 tgl rpt s
  | .encodeSamsung rpt => Sys2Proof.Machine.execEncodeSamsung rpt s
  | .encodePanasonic rpt => Sys2Proof.Machine.execEncodePanasonic rpt s
  | .encodeJvc rpt => Sys2Proof.Machine.execEncodeJvc rpt s
  | .encodeLg rpt => Sys2Proof.Machine.execEncodeLg rpt s
  | .encodeMitsubishi rpt => Sys2Proof.Machine.execEncodeMitsubishi rpt s
  | .encodeSharp rpt => Sys2Proof.Machine.execEncodeSharp rpt s
  | .encodeDish rpt => Sys2Proof.Machine.execEncodeDish rpt s
  | .encodeAiwa rpt => Sys2Proof.Machine.execEncodeAiwa rpt s
  | .encodeDenon rpt => Sys2Proof.Machine.execEncodeDenon rpt s
  | .encodeKaseikyo rpt => Sys2Proof.Machine.execEncodeKaseikyo rpt s
  | .encodeWhynter rpt => Sys2Proof.Machine.execEncodeWhynter rpt s
  | .encodeCoolix rpt => Sys2Proof.Machine.execEncodeCoolix rpt s
  | .encodeGeneric rpt => Sys2Proof.Machine.execEncodeGeneric rpt s
  | .transmit => Sys2Proof.Machine.execTransmit s
  | .sendNec => Sys2Proof.Machine.execSendNec s
  | .sendNecRpt => Sys2Proof.Machine.execSendNecRpt s
  | .sendNecExt rpt => Sys2Proof.Machine.execSendNecExt rpt s
  | .sendSony12 rpt => Sys2Proof.Machine.execSendSony12 rpt s
  | .sendSony15 rpt => Sys2Proof.Machine.execSendSony15 rpt s
  | .sendSony20 rpt => Sys2Proof.Machine.execSendSony20 rpt s
  | .sendSonyVar3 => Sys2Proof.Machine.execSendSonyVar3 s
  | .sendRc5 tgl auto rpt => Sys2Proof.Machine.execSendRc5 tgl auto rpt s
  | .sendRc5X tgl auto rpt => Sys2Proof.Machine.execSendRc5X tgl auto rpt s
  | .sendRc6 tgl auto rpt => Sys2Proof.Machine.execSendRc6 tgl auto rpt s
  | .sendSamsung rpt => Sys2Proof.Machine.execSendSamsung rpt s
  | .sendPanasonic rpt => Sys2Proof.Machine.execSendPanasonic rpt s
  | .sendJvc rpt => Sys2Proof.Machine.execSendJvc rpt s
  | .sendLg rpt => Sys2Proof.Machine.execSendLg rpt s
  | .sendMitsubishi rpt => Sys2Proof.Machine.execSendMitsubishi rpt s
  | .sendSharp rpt => Sys2Proof.Machine.execSendSharp rpt s
  | .sendDish rpt => Sys2Proof.Machine.execSendDish rpt s
  | .sendAiwa rpt => Sys2Proof.Machine.execSendAiwa rpt s
  | .sendDenon rpt => Sys2Proof.Machine.execSendDenon rpt s
  | .sendKaseikyo rpt => Sys2Proof.Machine.execSendKaseikyo rpt s
  | .sendWhynter rpt => Sys2Proof.Machine.execSendWhynter rpt s
  | .sendCoolix rpt => Sys2Proof.Machine.execSendCoolix rpt s
  | .sendGeneric rpt => Sys2Proof.Machine.execSendGeneric rpt s
  | .rsttglRc5 => Sys2Proof.Machine.execRsttglRc5 s
  | .rsttglRc6 => Sys2Proof.Machine.execRsttglRc6 s
  | .sendnNec => Sys2Proof.Machine.execSendnNec s
  | .sendnNecRpt => Sys2Proof.Machine.execSendnNecRpt s
  | .sendnNecExt rpt => Sys2Proof.Machine.execSendnNecExt rpt s
  | .sendnSony12 rpt => Sys2Proof.Machine.execSendnSony12 rpt s
  | .sendnSony15 rpt => Sys2Proof.Machine.execSendnSony15 rpt s
  | .sendnSony20 rpt => Sys2Proof.Machine.execSendnSony20 rpt s
  | .sendnSonyVar3 => Sys2Proof.Machine.execSendnSonyVar3 s
  | .sendnRc5 tgl auto rpt => Sys2Proof.Machine.execSendnRc5 tgl auto rpt s
  | .sendnRc5X tgl auto rpt => Sys2Proof.Machine.execSendnRc5X tgl auto rpt s
  | .sendnRc6 tgl auto rpt => Sys2Proof.Machine.execSendnRc6 tgl auto rpt s
  | .sendnSamsung rpt => Sys2Proof.Machine.execSendnSamsung rpt s
  | .sendnPanasonic rpt => Sys2Proof.Machine.execSendnPanasonic rpt s
  | .sendnJvc rpt => Sys2Proof.Machine.execSendnJvc rpt s
  | .sendnLg rpt => Sys2Proof.Machine.execSendnLg rpt s
  | .sendnMitsubishi rpt => Sys2Proof.Machine.execSendnMitsubishi rpt s
  | .sendnSharp rpt => Sys2Proof.Machine.execSendnSharp rpt s
  | .sendnDish rpt => Sys2Proof.Machine.execSendnDish rpt s
  | .sendnAiwa rpt => Sys2Proof.Machine.execSendnAiwa rpt s
  | .sendnDenon rpt => Sys2Proof.Machine.execSendnDenon rpt s
  | .sendnKaseikyo rpt => Sys2Proof.Machine.execSendnKaseikyo rpt s
  | .sendnWhynter rpt => Sys2Proof.Machine.execSendnWhynter rpt s
  | .sendnCoolix rpt => Sys2Proof.Machine.execSendnCoolix rpt s
  | .sendnGeneric rpt => Sys2Proof.Machine.execSendnGeneric rpt s
  | .illegalOp0 => Sys2Proof.Machine.execIllegalOp0 s
  | .illegalOp9 => Sys2Proof.Machine.execIllegalOp9 s
  | .illegalOp10 => Sys2Proof.Machine.execIllegalOp10 s
  | .illegalOp11 => Sys2Proof.Machine.execIllegalOp11 s
  | .illegalOp12 => Sys2Proof.Machine.execIllegalOp12 s
  | .illegalOp13 => Sys2Proof.Machine.execIllegalOp13 s
  | .illegalOp14 => Sys2Proof.Machine.execIllegalOp14 s
  | .illegalOp15 => Sys2Proof.Machine.execIllegalOp15 s
  | .cen duty => Sys2Proof.Machine.execCen duty s
  | .cdis => Sys2Proof.Machine.execCdis s
  | .dly us => Sys2Proof.Machine.execDly us s

end Sys2Proof.Machine
end

