-- ==== Sys2Proof/Machine/Port.lean ====
section
/-! DEFINITION. What the host does to the block between operations (10_state R14, R15, R22, R26; 70_reset R154), other
than presenting a command word, and how the next word is placed and taken. -/

namespace Sys2Proof.Machine

/-- The reset event (R154): every element to its reset value; `IE` is the host's, and the host's schedule and the
count of configuration attempts go on (log 15). "The block masks no
interrupt after reset": when the event cuts a frame, the host's `IE` is the one that `IESAVE` holds (R22), and the mask
of the critical section ends with the frame (DEDUCED, log 27). -/
def resetEvent (s : State) : State :=
  { State.reset with ie := if s.phase = .idle then s.ie else s.iesave, draws := s.draws, port := s.port }

/-- The host writes an entry of `SYM` (R26, R37). An index of `NSYM` or more does not exist (R35; log 17). -/
def hostSetSym (p : Params) (i : Word) (v : Symbol) (s : State) : Host.Outcome State Fault Refusal :=
  if i.toNat < p.nsym then .next { s with sym := symSet s.sym i.toNat v } else .fault (.noSuchSymbol i.toNat)

/-- The host presents a name (R15). A name longer than `NAMEMAX` cannot be presented (R71; log 16). -/
def hostSetName (p : Params) (bytes : List Byte) (s : State) : Host.Outcome State Fault Refusal :=
  if bytes.length ≤ p.nameMax then .next (setName bytes s) else .refused .nameTooLong

/-- The host's action has been taken from the schedule. -/
def takeAction (rest : List HostAction) (s : State) : State := { s with port := rest }

/-- A command word is presented next (R52), with the block between two operations. -/
def presentCommand (w : BitVec 32) (s : State) : State :=
  { s with phase := .idle, uport := [], port := .command w :: s.port }

/-- A micro-operation word is the next at the carrier capability interface (R60). -/
def presentMicro (u : BitVec 34) (s : State) : State := { s with uport := u :: s.uport }

end Sys2Proof.Machine
end

