-- ==== Sys2Proof/Machine/Run.lean ====
section
/-! DEFINITION. What one step runs: a presented word, a host action, or the sequencer's next move, in this order of
preference: a micro-operation word that is waiting is taken first; else the host's next action, or, while a
transmission is in progress, the sequencer's next move. An operation is one step (43_carrier R123; log 10). -/

namespace Sys2Proof.Machine

/-- A presented word is run: the decoded instruction, or the meaning of a word that is none (30_encoding R64). -/
def runWord (c : CodeWord) (s : State) : Host.Outcome State Fault Refusal :=
  match decode c with
  | .ok i => exec i s
  | .error e => execIllegal e s

/-- The host's action, the block being between two operations. -/
def runAction (a : HostAction) (s : State) : Host.Outcome State Fault Refusal :=
  match a with
  | .setReg r v => .next (setReg r v s)
  | .setName bytes => hostSetName params bytes s
  | .setSym i v => hostSetSym params i v s
  | .setIe v => .next { s with ie := v }
  | .command w => runWord (.cw w) s
  | .reset => .next (resetEvent s)

/-- What a step does. The host may reset the block at any time (R154); any other action of the host while
`PHASE != IDLE` is refused (R44, R45; log 9). With nothing to do the block waits (R153, R154; log 8). -/
def runNext (s : State) : Host.Outcome State Fault Refusal :=
  match s.uport, s.port with
  | u :: us, _ => runWord (.uw u) (takeMicro u us s)
  | [], a :: rest =>
    if s.phase = .idle ∨ a = .reset then runAction a (takeAction rest s) else .refused .overlappedOperation
  | [], [] => advanceSeq s

/-- The instruction of an opcode-table word placed where the next step fetches: at the carrier capability interface
for a micro-operation word (34 bits), at the command port for a command word (log 24). -/
def placeWord (nbits w : Nat) (s : State) : State :=
  if nbits ≤ 32 then presentCommand (BitVec.ofNat 32 w) s else presentMicro (BitVec.ofNat 34 w) s

end Sys2Proof.Machine
end

