-- ==== Sys2Proof/Machine/Step.lean ====
section
/-! DEFINITION. One step of the machine, and the placing of the next instruction. -/

namespace Sys2Proof.Machine

/-- One step (00_scope R11, 20_memory R45, 43_carrier R125): see `runNext`. -/
def step (s : State) : Host.Outcome State Fault Refusal := runNext s

/-- `s` with the instruction of an opcode-table word placed where the next step fetches: see `placeWord`. -/
def State.withFetchWord (s : State) (nbits w : Nat) : State := placeWord nbits w s

end Sys2Proof.Machine
end

