-- ==== Sys2Proof/Safety.lean ====
section
/-! DEFINITION. The terms in which claims are stated: what a transmission leaves behind, written without the
sequencer (43_carrier R129), and the invariant of the machine (10_state R33). -/

namespace Sys2Proof.Machine

/-- The state after the frame `S` has been emitted, in closed form (R121, R122, R124, R129): one `Idle` and the
waveform of `S` are appended to `WAVE`, `IE` is as before and `IESAVE` holds it, the sequencer is idle. `IDX`, `LEN`
and `REM` hold what the last phase left, which no rule reads while `PHASE = IDLE` (log 20). -/
def emitted (S : List Symbol) (s : State) : State :=
  { s with
    phase := .idle
    idx := if S = [] then s.idx else BitVec.ofNat 32 (S.length - 1)
    len := BitVec.ofNat 32 S.length
    rem := if S = [] then s.rem else 0
    carrier := if S = [] then s.carrier else false
    iesave := s.ie
    wave := s.wave ++ (.idle :: waveOf s.cfreq s.cduty S) }

/-- A failed ENCODE, SEND or SENDN: `ERR` holds the result, `RES0` is 0, nothing else changes (R81, R134, R139). -/
def failedWith (e : Byte) (s : State) : State := { s with err := e, res0 := 0 }

/-- An illegal ENCODE, SEND or SENDN word of operation code `op` (R64): `ERR` holds the result; `RES0` is 0 or as before,
which the spec leaves open and no proof can see (log 12); nothing else changes. -/
def illegalWith (op : BitVec 4) (k : IllegalFrame) (e : Byte) (s : State) : State :=
  { s with err := e, res0 := if params.illegalClearsRes0 op k = true then 0 else s.res0 }

/-- A successful ENCODE of the frame `F` (R81 step 11): `SYM`, `SYMLEN`, `RES0` and `ERR`, and nothing else. -/
def encoded (F : List Symbol) (s : State) : State :=
  { s with
    sym := memWrite s.sym 0 F
    symLen := BitVec.ofNat 32 F.length
    res0 := BitVec.ofNat 32 F.length
    err := 0 }

/-- A SEND or SENDN whose PWM configuration failed (R134 step 6): one attempt more, `INIT`, `FAULT`, `RES0`, `ERR`. -/
def configurationFailed (s : State) : State :=
  { s with draws := s.draws + 1, init := false, fault := true, res0 := 0, err := 5 }

/-- `TOGGLE[RC5]` and `TOGGLE[RC6]` after a successful SEND or SENDN of `P` (R133). -/
def toggled (P : Proto) (auto : Bool) (s : State) : State :=
  { s with
    toggleRc5 := if P = .rc5 ∧ auto = true then !s.toggleRc5 else s.toggleRc5
    toggleRc6 := if P = .rc6 ∧ auto = true then !s.toggleRc6 else s.toggleRc6 }

/-- A successful SEND of the frame `F` of `P`, in closed form (R134 steps 5 to 11): one attempt more, the carrier of
the catalog, the frame stored and emitted, the toggle flipped when `auto`, `ERR = OK`. -/
def sentFrame (P : Proto) (auto : Bool) (F : List Symbol) (s : State) : State :=
  toggled P auto
    { emitted F
        { encoded F s with
          draws := s.draws + 1
          cfreq := (params.timing P).carrierFreqHz
          cduty := (params.timing P).dutyCyclePercent } with
      err := 0 }

/-- The waveform of a SENDN (R136): the first frame, then `n` times a gap and the frame `FR`, an `Idle` before each
frame. -/
def cadence (f : Word) (d : Duty) (gap : Word) (F FR : List Symbol) (n : Nat) : List WaveItem :=
  (.idle :: waveOf f d F) ++ (List.replicate n (spaceItems gap ++ (.idle :: waveOf f d FR))).flatten

/-- The last frame of a SENDN of `n + 1` frames (R136: "After SENDN, `SYM` holds the last frame sent"). -/
def lastFrame (F FR : List Symbol) (n : Nat) : List Symbol := if n = 0 then F else FR

/-- A successful SENDN of `P` issued with the carrier off, in closed form (R136 steps 7 to 11): the first frame `F`
and then `RPT_COUNT[P] - 1` frames `FR`. -/
def sentCadence (P : Proto) (auto : Bool) (F FR : List Symbol) (s : State) : State :=
  toggled P auto
    { s with
      draws := s.draws + 1
      cfreq := (params.timing P).carrierFreqHz
      cduty := (params.timing P).dutyCyclePercent
      sym := (fun m => memWrite m 0 FR)^[params.rptCount P - 1] (memWrite s.sym 0 F)
      symLen := BitVec.ofNat 32 (lastFrame F FR (params.rptCount P - 1)).length
      res0 := BitVec.ofNat 32 (lastFrame F FR (params.rptCount P - 1)).length
      phase := .idle
      idx := if lastFrame F FR (params.rptCount P - 1) = [] then s.idx
        else BitVec.ofNat 32 ((lastFrame F FR (params.rptCount P - 1)).length - 1)
      len := BitVec.ofNat 32 (lastFrame F FR (params.rptCount P - 1)).length
      rem := if lastFrame F FR (params.rptCount P - 1) = [] then s.rem else 0
      iesave := s.ie
      wave := s.wave ++ cadence (params.timing P).carrierFreqHz (params.timing P).dutyCyclePercent
        (params.rptGapUs P) F FR (params.rptCount P - 1)
      err := 0 }

/-- The frame of a word with `rpt`: the repeat frame of R91 when `rpt = 1` and `INFO[P].has_repeat`, else `F`. -/
def orRepeat (P : Proto) (rpt : Bool) (F : List Symbol) : List Symbol :=
  if rpt && hasRepeat params P then
    ⟨(params.ext P).rptMarkUs, (params.ext P).rptSpaceUs⟩ :: stop (params.timing P)
  else F

/-- The frames 2 to `N` of a SENDN of `P` whose first frame is `F` (R136 step 5). -/
def nextFrame (P : Proto) (F : List Symbol) : List Symbol := orRepeat P true F

/-- How many places of the list hold an `x` directly followed by a `y` (R113: `n10`; R115: `n01`). -/
def adjacent (x y : Bool) : List Bool → Nat
  | a :: b :: rest => (if a = x ∧ b = y then 1 else 0) + adjacent x y (b :: rest)
  | _ => 0

/-- What a run list puts on the pin, run by run (R110): a mark is carrier on, a space carrier off, a run of no length
leaves no trace. -/
def runItems (f : Word) (d : Duty) : List Run → List WaveItem
  | [] => []
  | r :: rest => (if r.us = 0 then [] else if r.level then [.on f d r.us] else [.off r.us]) ++ runItems f d rest

/-- A run list from its first mark on. -/
def fromFirstMark (R : List Run) : List Run := R.dropWhile fun r => r.us == 0 || !r.level

/-- The words that may wait at the carrier capability interface in a mark phase, with the carrier they need. -/
def markBusy (s : State) : Prop :=
  ∃ n, s.uport = markWords s.cduty n ∨ (s.carrier = true ∧ (s.uport = [dlyWord n] ∨ s.uport = []))

/-- The words that may wait at the carrier capability interface in a space phase, with the carrier they need. -/
def spaceBusy (s : State) : Prop :=
  ∃ n, s.uport = spaceWords n ∨ (s.carrier = false ∧ (s.uport = [dlyWord n] ∨ s.uport = []))

/-- The invariant (R33), with what else every step keeps: the result codes of R139, the canonical form and the extent
of `SYM` (R35), the length of `OPNAME` (R15), and the shape of a transmission in progress (R24, R25, R121, R125). -/
structure Inv (s : State) : Prop where
  /-- I-1: `PHASE = IDLE` implies `CARRIER = 0`. -/
  idleCarrier : s.phase = .idle → s.carrier = false
  /-- I-2: `CARRIER = 1` implies `INIT = 1`. -/
  carrierInit : s.carrier = true → s.init = true
  /-- I-3: `FAULT = 1` implies `INIT = 0`. -/
  faultInit : s.fault = true → s.init = false
  /-- I-4: `SYMLEN <= NSYM`. -/
  symLen : s.symLen.toNat ≤ params.nsym
  /-- I-5: `CDUTY <= 100`. -/
  duty : s.cduty.toNat ≤ 100
  /-- I-5: `INIT = 1` implies `CFREQ >= 1`. -/
  freq : s.init = true → s.cfreq ≠ 0
  /-- R139: codes 7 to 255 are never written to `ERR`. -/
  err : s.err.toNat ≤ 6
  /-- R15: `OPNAMELEN <= NAMEMAX`. -/
  name : s.opnameLen.toNat ≤ params.nameMax
  /-- R15: `OPNAME` holds at most `NAMEMAX` bytes. -/
  nameBytes : s.opname.length ≤ params.nameMax
  /-- `SYM` is in canonical form. -/
  symWf : Memory.wf s.sym = true
  /-- R35: `SYM` has the entries `0 .. NSYM-1`. -/
  symBelow : symBelow params.nsym s.sym = true
  /-- No micro-operation waits between operations. -/
  idleWords : s.phase = .idle → s.uport = []
  /-- R24, R121: a transmission runs on an initialised block, with interrupts off and `IDX < LEN <= NSYM`. -/
  busy : s.phase ≠ .idle →
    s.init = true ∧ s.ie = false ∧ s.idx.toNat < s.len.toNat ∧ s.len.toNat ≤ params.nsym
  /-- R125: in a mark phase. -/
  markWords : s.phase = .mark → markBusy s
  /-- R125: in a space phase. -/
  spaceWords : s.phase = .space → spaceBusy s

/-- The instruction is an operation at the command port, not a micro-operation. -/
def isCommand : Instr → Bool
  | .cen _ => false
  | .cdis => false
  | .dly _ => false
  | _ => true

/-- The operation code of an instruction at the command port (R54); 0 for a micro-operation. -/
def opCode (i : Instr) : BitVec 4 :=
  match encode i with
  | .cw w => cwOp w
  | .uw _ => 0

/-- The instruction is an ENCODE (R54). -/
def isEncode (i : Instr) : Bool := opCode i = 4

/-- The instruction is a SEND or a SENDN (R54). -/
def isSend (i : Instr) : Bool := opCode i = 6 || opCode i = 8

/-- The ENCODE whose frame a SEND or SENDN takes (R134 steps 2 and 3, R136): the same protocol form and `rpt`, with the
toggle bit `TOGGLE[proto]` when `auto = 1` and `tgl` when it is 0. `none` for any other instruction, and for the reserved
Sony variant, which has no frame. -/
def encodeOf (s : State) : Instr → Option Instr
  | .sendNec => some .encodeNec
  | .sendNecRpt => some .encodeNecRpt
  | .sendNecExt rpt => some (.encodeNecExt rpt)
  | .sendSony12 rpt => some (.encodeSony12 rpt)
  | .sendSony15 rpt => some (.encodeSony15 rpt)
  | .sendSony20 rpt => some (.encodeSony20 rpt)
  | .sendSharp rpt => some (.encodeSharp rpt)
  | .sendPanasonic rpt => some (.encodePanasonic rpt)
  | .sendKaseikyo rpt => some (.encodeKaseikyo rpt)
  | .sendCoolix rpt => some (.encodeCoolix rpt)
  | .sendSamsung rpt => some (.encodeSamsung rpt)
  | .sendJvc rpt => some (.encodeJvc rpt)
  | .sendLg rpt => some (.encodeLg rpt)
  | .sendMitsubishi rpt => some (.encodeMitsubishi rpt)
  | .sendDish rpt => some (.encodeDish rpt)
  | .sendAiwa rpt => some (.encodeAiwa rpt)
  | .sendDenon rpt => some (.encodeDenon rpt)
  | .sendWhynter rpt => some (.encodeWhynter rpt)
  | .sendGeneric rpt => some (.encodeGeneric rpt)
  | .sendRc5 tgl auto rpt => some (.encodeRc5 (if auto then s.toggleRc5 else tgl) rpt)
  | .sendRc5X tgl auto rpt => some (.encodeRc5X (if auto then s.toggleRc5 else tgl) rpt)
  | .sendRc6 tgl auto rpt => some (.encodeRc6 (if auto then s.toggleRc6 else tgl) rpt)
  | .sendnNec => some .encodeNec
  | .sendnNecRpt => some .encodeNecRpt
  | .sendnNecExt rpt => some (.encodeNecExt rpt)
  | .sendnSony12 rpt => some (.encodeSony12 rpt)
  | .sendnSony15 rpt => some (.encodeSony15 rpt)
  | .sendnSony20 rpt => some (.encodeSony20 rpt)
  | .sendnSharp rpt => some (.encodeSharp rpt)
  | .sendnPanasonic rpt => some (.encodePanasonic rpt)
  | .sendnKaseikyo rpt => some (.encodeKaseikyo rpt)
  | .sendnCoolix rpt => some (.encodeCoolix rpt)
  | .sendnSamsung rpt => some (.encodeSamsung rpt)
  | .sendnJvc rpt => some (.encodeJvc rpt)
  | .sendnLg rpt => some (.encodeLg rpt)
  | .sendnMitsubishi rpt => some (.encodeMitsubishi rpt)
  | .sendnDish rpt => some (.encodeDish rpt)
  | .sendnAiwa rpt => some (.encodeAiwa rpt)
  | .sendnDenon rpt => some (.encodeDenon rpt)
  | .sendnWhynter rpt => some (.encodeWhynter rpt)
  | .sendnGeneric rpt => some (.encodeGeneric rpt)
  | .sendnRc5 tgl auto rpt => some (.encodeRc5 (if auto then s.toggleRc5 else tgl) rpt)
  | .sendnRc5X tgl auto rpt => some (.encodeRc5X (if auto then s.toggleRc5 else tgl) rpt)
  | .sendnRc6 tgl auto rpt => some (.encodeRc6 (if auto then s.toggleRc6 else tgl) rpt)
  | _ => none

/-- One form of ENCODE with what the tables of R61 and R75 declare for it. -/
structure Form where
  encode : Instr
  proto : Proto
  waddr : Nat
  wcmd : Nat
  mincap : Nat
deriving DecidableEq, Repr

/-- The form of a protocol without a frame rule: the widths of its registry record (R61, last row) and the minimum
capacity given with `ENC_EXT[P]` (R75, last row). -/
def extForm (i : Instr) (P : Proto) : Form :=
  ⟨i, P, (info params P).addressBits.toNat, (info params P).commandBits.toNat,
    ((params.encExt P).map EncExt.minCap).getD 0⟩

/-- The tables of R61 and R75 written out: every form of ENCODE but the reserved Sony variant, with its `WADDR`, `WCMD`
and `MINCAP`. The repeat frame of NEC is checked against the minimum of the data frame (R75). -/
def forms (tgl rpt : Bool) : List Form := [
  ⟨.encodeNec, .nec, 8, 8, 34⟩,
  ⟨.encodeNecRpt, .nec, 8, 8, 34⟩,
  ⟨.encodeNecExt rpt, .necExt, 16, 8, 34⟩,
  ⟨.encodeSony12 rpt, .sony, 5, 7, 13⟩,
  ⟨.encodeSony15 rpt, .sony, 8, 7, 16⟩,
  ⟨.encodeSony20 rpt, .sony, 13, 7, 21⟩,
  ⟨.encodeRc5 tgl rpt, .rc5, 5, 6, 14⟩,
  ⟨.encodeRc5X tgl rpt, .rc5, 5, 7, 14⟩,
  ⟨.encodeRc6 tgl rpt, .rc6, 8, 8, 20⟩,
  ⟨.encodePanasonic rpt, .panasonic, 16, 32, 49⟩,
  ⟨.encodeKaseikyo rpt, .kaseikyo, 16, 32, 49⟩,
  ⟨.encodeSharp rpt, .sharp, 5, 8, 16⟩,
  ⟨.encodeCoolix rpt, .coolix, 0, 24, 52⟩,
  extForm (.encodeSamsung rpt) .samsung,
  extForm (.encodeJvc rpt) .jvc,
  extForm (.encodeLg rpt) .lg,
  extForm (.encodeMitsubishi rpt) .mitsubishi,
  extForm (.encodeDish rpt) .dish,
  extForm (.encodeAiwa rpt) .aiwa,
  extForm (.encodeDenon rpt) .denon,
  extForm (.encodeWhynter rpt) .whynter,
  extForm (.encodeGeneric rpt) .generic]

/-- The protocol whose toggle bit a SEND or SENDN with `auto = 1` flips (R133). -/
def autoProto : Instr → Option Proto
  | .sendRc5 _ true _ => some .rc5
  | .sendRc5X _ true _ => some .rc5
  | .sendRc6 _ true _ => some .rc6
  | .sendnRc5 _ true _ => some .rc5
  | .sendnRc5X _ true _ => some .rc5
  | .sendnRc6 _ true _ => some .rc6
  | _ => none

end Sys2Proof.Machine
end

