-- ==== Sys2Proof/Certificates/Slice0/Obligations.lean ====
section
/-! DEFINITION. The statements for the provers. `params` is the record of the OPEN parameters, opaque constants in
the range the spec demands (log 6), so a statement about `exec` holds for every legal catalog; `params.hwOk s.draws`
is the free value `hw_ok` of the next configuration attempt (log 5), and every statement covers both of its values. -/

open Sys2Proof Sys2Proof.Machine

/-! ## Encoding -/

/-- Decoding the word of a well-formed instruction gives the instruction back. For every well-formed instruction, with
every operand at every value its encoding admits, decode of encode of it is the instruction. (30_encoding R52;
30_encoding R54; 30_encoding R60) -/
def Obligations.DecodeEncodeRoundTrip : Prop :=
  ∀ i : Instr, WellFormed i → decode (encode i) = .ok i

/-- Every word that matches a row of the opcode table decodes to an instruction of that row. For the row of every
constructor and every command or micro-operation word whose bits under the row's mask are the row's bits, decode
answers an instruction whose row is that row; so no two rows share a word. (30_encoding R54; spec/opcode_table.json)
-/
def Obligations.WordsOfARowDecodeToTheRow : Prop :=
  ∀ (i : Instr) (c : CodeWord), i.row.fits c = true → ∃ j, decode c = .ok j ∧ j.row = i.row

/-- Decoding a command word does not depend on the fields its operation does not read. Two command words decode alike
when they agree on op and the reserved bits; on proto for every operation code but those of INIT, FROMNAME and
TRANSMIT; and, for ENCODE, SEND and SENDN, on rpt, on var when proto is SONY, on tgl (and auto, for SEND and SENDN)
when proto is RC5 or RC6, and on ext when proto is RC5. (That rpt is a field of every protocol but NEC is DEDUCED: log
13.) (30_encoding R53; 30_encoding R54) -/
def Obligations.DecodeIgnoresFieldsNotRead : Prop :=
  ∀ w w' : BitVec 32,
    cwOp w = cwOp w' → cwReserved w = cwReserved w' →
    (cwOp w ≠ 1 → cwOp w ≠ 3 → cwOp w ≠ 5 → cwProto w = cwProto w') →
    (cwOp w = 4 ∨ cwOp w = 6 ∨ cwOp w = 8 →
      cwRpt w = cwRpt w' ∧
      (cwProto w = protoCode .sony → cwVar w = cwVar w') ∧
      (cwProto w = protoCode .rc5 ∨ cwProto w = protoCode .rc6 →
        cwTgl w = cwTgl w' ∧ (cwOp w ≠ 4 → cwAuto w = cwAuto w')) ∧
      (cwProto w = protoCode .rc5 → cwExt w = cwExt w')) →
    decode (.cw w) = decode (.cw w')

/-- Words written out from the layout of the command word decode to their instructions. Nine command words and three
micro-operation words, written from R52 and R60, decode to the instructions they stand for. (30_encoding R52;
30_encoding R60; 95_test_vectors K1, K4, K6, K7) -/
def Obligations.SampleWordsDecode : Prop :=
  decode (.cw 0x10000000) = .ok .init ∧
  decode (.cw 0x29000000) = .ok (.getinfo 18) ∧
  decode (.cw 0x41400000) = .ok (.encodeSony20 false) ∧
  decode (.cw 0x41820000) = .ok (.encodeRc5X false false) ∧
  decode (.cw 0x40040000) = .ok .encodeNecRpt ∧
  decode (.cw 0x50000000) = .ok .transmit ∧
  decode (.cw 0x61880000) = .ok (.sendRc5 false true false) ∧
  decode (.cw 0x72000000) = .ok .rsttglRc6 ∧
  decode (.cw 0x81000000) = .ok (.sendnSony12 false) ∧
  decode (.uw 0x100000021) = .ok (.cen 33) ∧
  decode (.uw 0x200000000) = .ok .cdis ∧
  decode (.uw 0x30000005A) = .ok (.dly 90)

/-- The packed symbol word holds the mark in bits 31 to 0 and the space in bits 63 to 32, and loses nothing. The mark
of a symbol is bits 31..0 of its packed word and the space bits 63..32; unpacking the packed word gives the symbol,
and packing an unpacked word gives the word, so every 64-bit word is a legal symbol. On the pin the mark comes first
and then the space, and a duration of 0 is a phase of no length. (R51) -/
def Obligations.SymbolWordHoldsMarkThenSpace : Prop :=
  (∀ v : Symbol, (symbolWord v).extractLsb' 0 32 = v.mark ∧ (symbolWord v).extractLsb' 32 32 = v.space ∧
    symbolOfWord (symbolWord v) = v) ∧
  (∀ w : BitVec 64, symbolWord (symbolOfWord w) = w) ∧
  (∀ (f : Word) (d : Duty) (v : Symbol), waveOf f d [v] =
    (if v.mark = 0 then [] else [.on f d v.mark.toNat]) ++ (if v.space = 0 then [] else [.off v.space.toNat]))

/-! ## The step -/

/-- A step runs the instruction that the next word decodes to. With no micro-operation waiting and the block between
operations, a command word at the head of the host's schedule that decodes to i: the step is exec of i on the state
with the word taken. A waiting micro-operation word that decodes to i: the step is exec of i on the state with the
word taken (takeMicro, which also clears REM when the word is a DLY). That the host's actions are a schedule is the
model's choice (log 8), as are the waiting words (log 11). (00_scope R11; 20_memory R45; 30_encoding R60) -/
def Obligations.StepRunsTheDecodedInstruction : Prop :=
  (∀ (s : State) (w : BitVec 32) (rest : List HostAction) (i : Instr),
    s.uport = [] → s.phase = .idle → s.port = .command w :: rest → decode (.cw w) = .ok i →
    step s = exec i (takeAction rest s)) ∧
  (∀ (s : State) (u : BitVec 34) (us : List (BitVec 34)) (i : Instr),
    s.uport = u :: us → decode (.uw u) = .ok i → step s = exec i (takeMicro u us s))

/-- A reserved operation code, and a command word that matches no row, raises its result and changes nothing else, but
perhaps RES0. Each of the eight rows ILLEGAL.OP0 and ILLEGAL.OP9 to ILLEGAL.OP15 answers the state with ERR =
InvalidArgument and everything else as before. Between operations, a command word with a nonzero reserved bit raises
InvalidArgument whatever its operation code and the rest of it; with reserved bits 0, an ENCODE, SEND or SENDN of a
protocol code of 18 or more raises UnsupportedProtocol, and an RSTTGL of a protocol other than RC5 and RC6 raises
InvalidArgument. Nothing else changes, but that after an ENCODE, SEND or SENDN word RES0 is 0 or as before: R64 and
R81 differ there, and the free value illegalClearsRes0 of log 12 (the model's choice) admits both. (30_encoding R64;
41_symbol_encoder R81; 60_exceptions R139; 60_exceptions R141) -/
def Obligations.IllegalCommandWordsRaise : Prop :=
  (∀ (s : State) (i : Instr),
    i ∈ [Instr.illegalOp0, .illegalOp9, .illegalOp10, .illegalOp11, .illegalOp12, .illegalOp13, .illegalOp14,
      .illegalOp15] →
    exec i s = .next { s with err := 2 }) ∧
  ∀ (s : State) (w : BitVec 32) (rest : List HostAction),
    s.uport = [] → s.phase = .idle → s.port = .command w :: rest →
    (cwReserved w ≠ 0 →
      step s = .next (if cwOp w = 4 ∨ cwOp w = 6 ∨ cwOp w = 8 then
          illegalWith (cwOp w) (if cwProto w = protoCode .sony ∧ cwVar w = 3 then .sonyVar3 else .reservedBits) 2
            { s with port := rest }
        else { s with port := rest, err := 2 })) ∧
    (cwReserved w = 0 → cwOp w = 4 ∨ cwOp w = 6 ∨ cwOp w = 8 → 18 ≤ (cwProto w).toNat →
      step s = .next (illegalWith (cwOp w) .noSuchProtocol 4 { s with port := rest })) ∧
    (cwReserved w = 0 → cwOp w = 7 → cwProto w ≠ protoCode .rc5 → cwProto w ≠ protoCode .rc6 →
      step s = .next { s with port := rest, err := 2 })

/-- The host's writes between operations change exactly what they name, or stop. Between operations: a write of an
operand register changes that register alone; SET IE changes IE; SET SYM[i] of an index below NSYM makes entry i read
as the symbol and every other entry as before, and changes nothing else; a name of at most NAMEMAX bytes is what
FROMNAME then reads, and changes nothing but OPNAME and OPNAMELEN. On the other side of the bounds the step stops: SET
SYM[i] of an index of NSYM or more, an entry that does not exist, is the fault noSuchSymbol (the model's choice, log
17), and a longer name, which R71 says cannot be presented, is refused as nameTooLong (log 16). (10_state R14;
10_state R15; 10_state R22; 10_state R26; 20_memory R35; 40_registry R71) -/
def Obligations.HostWritesBetweenOperations : Prop :=
  ∀ (s : State) (rest : List HostAction), s.uport = [] → s.phase = .idle →
    (∀ r v, s.port = .setReg r v :: rest →
      ∃ t, step s = .next t ∧ getReg r t = v ∧ (∀ r', r' ≠ r → getReg r' t = getReg r' s) ∧
        t = { s with
          port := rest, opa := t.opa, opc := t.opc, opcap := t.opcap, oplen := t.oplen, opfreq := t.opfreq,
          opduty := t.opduty }) ∧
    (∀ v, s.port = .setIe v :: rest → step s = .next { s with port := rest, ie := v }) ∧
    (∀ i v, s.port = .setSym i v :: rest → i.toNat < params.nsym → Memory.wf s.sym = true →
      ∃ t, step s = .next t ∧ symGet t.sym i.toNat = some v ∧
        (∀ k, k ≠ i.toNat → symGet t.sym k = symGet s.sym k) ∧ t = { s with port := rest, sym := t.sym }) ∧
    (∀ i v, s.port = .setSym i v :: rest → params.nsym ≤ i.toNat → step s = .fault (.noSuchSymbol i.toNat)) ∧
    (∀ bytes, s.port = .setName bytes :: rest → bytes.length ≤ params.nameMax →
      ∃ t, step s = .next t ∧ operandName t = bytes ∧
        t = { s with port := rest, opname := t.opname, opnameLen := t.opnameLen }) ∧
    (∀ bytes, s.port = .setName bytes :: rest → params.nameMax < bytes.length → step s = .refused .nameTooLong)

/-- The host can do nothing but reset while a transmission is in progress. While PHASE is not IDLE and no micro-
operation waits, any action of the host other than the reset event is refused by name; a step never runs it. That this
holds of every action, SET IE among them, is DEDUCED and the model's choice (log 9): the rules speak of operations and
of writes to SYM, the operands and OPNAME. (20_memory R44; 20_memory R45; 60_exceptions R145) -/
def Obligations.HostAccessDuringATransmissionIsRefused : Prop :=
  ∀ (s : State) (a : HostAction) (rest : List HostAction),
    s.uport = [] → s.port = a :: rest → s.phase ≠ .idle → a ≠ .reset →
    step s = .refused .overlappedOperation

/-- The state after reset holds every value the spec gives for reset. TOGGLE[RC5], TOGGLE[RC6], INIT, FAULT, CARRIER,
CFREQ, CDUTY, x[0] to x[5], OPNAMELEN, RES0 and SYMLEN are 0, ERR is OK, PHASE is IDLE, WAVE is empty, the pin is
inactive and no entry of SYM has been written. (10_state R34; 70_reset R154) -/
def Obligations.ResetLeavesTheSpecifiedValues : Prop :=
  State.reset.toggleRc5 = false ∧ State.reset.toggleRc6 = false ∧ State.reset.init = false ∧
  State.reset.fault = false ∧ State.reset.carrier = false ∧ State.reset.pin = .inactive ∧
  State.reset.phase = .idle ∧ State.reset.cfreq = 0 ∧ State.reset.cduty = 0 ∧
  (∀ r, getReg r State.reset = 0) ∧ State.reset.opnameLen = 0 ∧ State.reset.err = resultCode .ok ∧
  State.reset.res0 = 0 ∧ State.reset.symLen = 0 ∧ State.reset.wave = [] ∧
  (∀ k, symGet State.reset.sym k = none)

/-- The reset event puts the block into its reset state, also during a transmission, and leaves IE to the host. With
the reset event at the head of the schedule and no micro-operation waiting, in every phase, the step gives the reset
state with the host's IE: the IE at hand when PHASE is IDLE, and IESAVE, which holds it, when the event cuts a frame,
so that the mask of the block ends with the frame (R154 says that no interrupt is masked after reset; that IESAVE is
what IE becomes is DEDUCED, log 27). That IDX, LEN, REM, IESAVE, RESINFO and OPNAME, which R34 leaves unspecified, are
those of the reset state is the model's choice (log 3); that the schedule and the count of attempts go on is too (log
15). (70_reset R154; 10_state R34; 10_state R22) -/
def Obligations.ResetEventRestartsTheBlock : Prop :=
  ∀ (s : State) (rest : List HostAction), s.uport = [] → s.port = .reset :: rest →
    step s = .next { State.reset with
      ie := if s.phase = .idle then s.ie else s.iesave
      draws := s.draws
      port := rest }

/-! ## Registry -/

/-- GETINFO returns the registry record of a protocol code in range and NotFound for any other. For the code of a
protocol, GETINFO puts its registry record into RESINFO and OK into ERR; for a code from 18 to 31 it puts NotFound
into ERR and RESINFO keeps its contents. Nothing else changes, and INIT is not read. A command word with op = 2
presented between operations does exactly this for its field proto, whatever the fields not read hold, and raises
InvalidArgument when a reserved bit is set. The records of NEC and GENERIC are in range, and that of NEC has 8 address
bits, 8 command bits and has_repeat. (R70) -/
def Obligations.GetinfoReturnsTheRecord : Prop :=
  (∀ (P : Proto) (s : State), exec (.getinfo (protoCode P)) s = .next { s with resinfo := info params P, err := 0 }) ∧
  (∀ (c : BitVec 5) (s : State), 18 ≤ c.toNat → exec (.getinfo c) s = .next { s with err := 6 }) ∧
  (∀ (s : State) (w : BitVec 32) (rest : List HostAction),
    s.uport = [] → s.phase = .idle → s.port = .command w :: rest → cwOp w = 2 →
    step s = if cwReserved w ≠ 0 then .next { s with port := rest, err := 2 }
      else exec (.getinfo (cwProto w)) { s with port := rest }) ∧
  (info params .nec).addressBits = 8 ∧ (info params .nec).commandBits = 8 ∧ (info params .nec).hasRepeat = true ∧
  protoCode .nec = 0 ∧ protoCode .generic = 17

/-- The registry holds the sourced widths, the sourced repeat flag and the names. The address and command bits of the
nine protocols with a frame rule and has_repeat of NEC are those of the table in R74, and the name of every record is
NAME[P]. (40_registry R74; 40_registry R72) -/
def Obligations.RegistryHoldsTheSourcedCells : Prop :=
  (∀ P, (info params P).name = params.name P) ∧ (info params .nec).hasRepeat = true ∧
  ∀ r ∈ [(Proto.nec, 8, 8), (.necExt, 16, 8), (.sony, 5, 7), (.rc5, 5, 6), (.rc6, 8, 8), (.panasonic, 16, 32),
      (.sharp, 5, 8), (.kaseikyo, 16, 32), (.coolix, 0, 24)],
    (info params r.1).addressBits.toNat = r.2.1 ∧ (info params r.1).commandBits.toNat = r.2.2

/-- FROMNAME answers the lowest code whose name matches, and GENERIC when none does. FROMNAME writes to RES0 the code
of a protocol P and OK to ERR, and nothing else; P has a name equal to the operand after folding and no lower code has
one, or no protocol has one and P is GENERIC. (40_registry R71) -/
def Obligations.FromnameFindsTheFirstMatch : Prop :=
  ∀ s : State, ∃ P : Proto,
    exec .fromname s = .next { s with res0 := (protoCode P).setWidth 32, err := 0 } ∧
    ((foldName (operandName s) = foldName (params.name P) ∧
        ∀ Q : Proto, (protoCode Q).toNat < (protoCode P).toNat →
          foldName (operandName s) ≠ foldName (params.name Q)) ∨
      (P = .generic ∧ ∀ Q : Proto, foldName (operandName s) ≠ foldName (params.name Q)))

/-- FROMNAME does not distinguish the case of ASCII letters. Two name operands of the same length whose bytes agree,
or are an upper-case letter 0x41 to 0x5A and the byte 0x20 above it, give the same RES0. (40_registry R71; 40_registry
R72) -/
def Obligations.FromnameIgnoresAsciiCase : Prop :=
  ∀ s s' t t' : State,
    List.Forall₂ (fun a b : Byte => a = b ∨ (0x41 ≤ a.toNat ∧ a.toNat ≤ 0x5A ∧ b = a + 0x20) ∨
        (0x41 ≤ b.toNat ∧ b.toNat ≤ 0x5A ∧ a = b + 0x20)) (operandName s) (operandName s') →
    exec .fromname s = .next t → exec .fromname s' = .next t' → t.res0 = t'.res0

/-! ## ENCODE -/

/-- ENCODE of NEC, NEC_EXT and SONY stores the frame of its rule. With address and command within their widths and a
capacity from the protocol's minimum to NSYM: ENCODE.NEC, ENCODE.NEC.RPT, ENCODE.NEC_EXT and ENCODE.SONY.12, .15, .20
store the frame (header, bits in the stated order, stop; the repeat frame when rpt and has_repeat) in SYM from entry 0
on, put its length into SYMLEN and RES0 and OK into ERR, and change nothing else. ENCODE.SONY.VAR3 raises
InvalidArgument and changes nothing else but RES0, which is 0 or as before (illegalWith; the model's choice, log 12).
That the repeat frame of SONY ends with the stop of the catalog, as R91 says, also where R79 speaks of a stop never
read, is DEDUCED and the model's choice (log 26). (41_symbol_encoder R81; 41_symbol_encoder R89; 41_symbol_encoder
R90; 41_symbol_encoder R91; 41_symbol_encoder R92; 40_registry R75) -/
def Obligations.EncodeNecAndSonyStoreTheFrame : Prop :=
  (∀ (s : State), s.opa.toNat < 2 ^ 8 → s.opc.toNat < 2 ^ 8 → 34 ≤ s.opcap.toNat → s.opcap.toNat ≤ params.nsym →
    exec .encodeNec s = .next (encoded
      (hdr (params.timing .nec) ++ bitSymbols (params.timing .nec) (bitsLsb s.opa.toNat 8 ++ bitsLsb (255 -
        s.opa.toNat) 8 ++ bitsLsb s.opc.toNat 8 ++ bitsLsb (255 - s.opc.toNat) 8) ++ stop (params.timing
        .nec)) s)) ∧
  (∀ (s : State), s.opa.toNat < 2 ^ 8 → s.opc.toNat < 2 ^ 8 → 34 ≤ s.opcap.toNat → s.opcap.toNat ≤ params.nsym →
    exec .encodeNecRpt s = .next (encoded
      (⟨(params.ext .nec).rptMarkUs, (params.ext .nec).rptSpaceUs⟩ :: stop (params.timing .nec)) s)) ∧
  (∀ (s : State) (rpt : Bool), s.opa.toNat < 2 ^ 16 → s.opc.toNat < 2 ^ 8 → 34 ≤ s.opcap.toNat → s.opcap.toNat ≤ params.nsym →
    exec (.encodeNecExt rpt) s = .next (encoded
      (orRepeat .necExt rpt (hdr (params.timing .necExt) ++ bitSymbols (params.timing .necExt) (bitsLsb
        s.opa.toNat 16 ++ bitsLsb s.opc.toNat 8 ++ bitsLsb (255 - s.opc.toNat) 8) ++ stop (params.timing
        .necExt))) s)) ∧
  (∀ (s : State) (rpt : Bool), s.opa.toNat < 2 ^ 5 → s.opc.toNat < 2 ^ 7 → 13 ≤ s.opcap.toNat → s.opcap.toNat ≤ params.nsym →
    exec (.encodeSony12 rpt) s = .next (encoded
      (orRepeat .sony rpt (hdr (params.timing .sony) ++ bitSymbols (params.timing .sony) (bitsLsb s.opc.toNat
        7 ++ bitsLsb s.opa.toNat 5))) s)) ∧
  (∀ (s : State) (rpt : Bool), s.opa.toNat < 2 ^ 8 → s.opc.toNat < 2 ^ 7 → 16 ≤ s.opcap.toNat → s.opcap.toNat ≤ params.nsym →
    exec (.encodeSony15 rpt) s = .next (encoded
      (orRepeat .sony rpt (hdr (params.timing .sony) ++ bitSymbols (params.timing .sony) (bitsLsb s.opc.toNat
        7 ++ bitsLsb s.opa.toNat 8))) s)) ∧
  (∀ (s : State) (rpt : Bool), s.opa.toNat < 2 ^ 13 → s.opc.toNat < 2 ^ 7 → 21 ≤ s.opcap.toNat → s.opcap.toNat ≤ params.nsym →
    exec (.encodeSony20 rpt) s = .next (encoded
      (orRepeat .sony rpt (hdr (params.timing .sony) ++ bitSymbols (params.timing .sony) (bitsLsb s.opc.toNat
        7 ++ bitsLsb s.opa.toNat 13))) s)) ∧
  (∀ s : State, exec .encodeSonyVar3 s = .next (illegalWith 4 .sonyVar3 2 s))

/-- ENCODE of SHARP, PANASONIC, KASEIKYO and COOLIX stores the frame of its rule. With address and command within
their widths (for COOLIX, address 0) and a capacity from the protocol's minimum to NSYM, the four rows store the frame
(or the repeat frame when rpt and has_repeat) in SYM from entry 0 on, put its length into SYMLEN and RES0 and OK into
ERR, and change nothing else. That these four rows read rpt is DEDUCED (log 13), and that the repeat frame of
PANASONIC and KASEIKYO ends with the stop of the catalog, as R91 says, also where R79 speaks of a stop never read, is
DEDUCED and the model's choice (log 26). (41_symbol_encoder R81; 41_symbol_encoder R91; 41_symbol_encoder R93;
41_symbol_encoder R94; 41_symbol_encoder R95; 41_symbol_encoder R96; 40_registry R75) -/
def Obligations.EncodeSharpPanasonicKaseikyoCoolixStoreTheFrame : Prop :=
  (∀ (s : State) (rpt : Bool), s.opa.toNat < 2 ^ 5 → s.opc.toNat < 2 ^ 8 → 16 ≤ s.opcap.toNat → s.opcap.toNat ≤ params.nsym →
    exec (.encodeSharp rpt) s = .next (encoded
      (orRepeat .sharp rpt (bitSymbols (params.timing .sharp) (bitsMsb s.opa.toNat 5 ++ bitsMsb s.opc.toNat 8
        ++ [false, xorAll (bitsMsb s.opa.toNat 5 ++ bitsMsb s.opc.toNat 8)]) ++ stop (params.timing .sharp))) s)) ∧
  (∀ (s : State) (rpt : Bool), s.opa.toNat < 2 ^ 16 → 49 ≤ s.opcap.toNat → s.opcap.toNat ≤ params.nsym →
    exec (.encodePanasonic rpt) s = .next (encoded
      (orRepeat .panasonic rpt (hdr (params.timing .panasonic) ++ bitSymbols (params.timing .panasonic)
        (bitsLsb s.opa.toNat 16 ++ bitsLsb s.opc.toNat 32))) s)) ∧
  (∀ (s : State) (rpt : Bool), s.opa.toNat < 2 ^ 16 → 49 ≤ s.opcap.toNat → s.opcap.toNat ≤ params.nsym →
    exec (.encodeKaseikyo rpt) s = .next (encoded
      (orRepeat .kaseikyo rpt (hdr (params.timing .kaseikyo) ++ bitSymbols (params.timing .kaseikyo) (bitsLsb
        s.opa.toNat 16 ++ bitsLsb s.opc.toNat 32))) s)) ∧
  (∀ (s : State) (rpt : Bool), s.opa = 0 → s.opc.toNat < 2 ^ 24 → 52 ≤ s.opcap.toNat → s.opcap.toNat ≤ params.nsym →
    exec (.encodeCoolix rpt) s = .next (encoded
      (orRepeat .coolix rpt (hdr (params.timing .coolix) ++ bitSymbols (params.timing .coolix) (bitsLsb
        s.opc.toNat 24) ++ [⟨(params.timing .coolix).stopBitUs.getD 0, (params.ext .coolix).footerSpaceUs⟩]
        ++ (hdr (params.timing .coolix) ++ bitSymbols (params.timing .coolix) (bitsLsb s.opc.toNat 24)) ++
        stop (params.timing .coolix))) s))

/-- ENCODE of RC5, extended RC5 and RC6 stores the packed Manchester frame. With address and command within their
widths and a capacity from the protocol's minimum to NSYM: ENCODE.RC5 and ENCODE.RC5.X store the packed cells of the
fourteen bits of their rule; ENCODE.RC6 stores its frame when it fits the capacity and raises BufferTooSmall with RES0
= 0 and nothing stored when it does not, and no RC6 frame needs more than 22 symbols. Nothing else changes. With rpt
and has_repeat the frame is the repeat frame; that these rows read rpt is DEDUCED (log 13). That the field bit of
extended RC5 is the second start bit is PRESUMED (log 23). (41_symbol_encoder R81; 41_symbol_encoder R91;
42_manchester R112; 42_manchester R113; 42_manchester R114; 42_manchester R115; 40_registry R75) -/
def Obligations.EncodeManchesterStoresTheFrame : Prop :=
  (∀ (s : State) (tgl rpt : Bool), s.opa.toNat < 2 ^ 5 → s.opc.toNat < 2 ^ 6 → 14 ≤ s.opcap.toNat → s.opcap.toNat ≤ params.nsym →
    exec (.encodeRc5 tgl rpt) s = .next (encoded
      (orRepeat .rc5 rpt (pack (cells rc5First (halfBit (params.timing .rc5)) ([true, true, tgl] ++ bitsMsb
        s.opa.toNat 5 ++ bitsMsb s.opc.toNat 6)))) s)) ∧
  (∀ (s : State) (tgl rpt : Bool), s.opa.toNat < 2 ^ 5 → s.opc.toNat < 2 ^ 7 → 14 ≤ s.opcap.toNat → s.opcap.toNat ≤ params.nsym →
    exec (.encodeRc5X tgl rpt) s = .next (encoded
      (orRepeat .rc5 rpt (pack (cells rc5First (halfBit (params.timing .rc5)) ([true, !(s.opc.toNat.testBit
        6), tgl] ++ bitsMsb s.opa.toNat 5 ++ bitsMsb (s.opc.toNat % 64) 6)))) s)) ∧
  (∀ (s : State) (tgl rpt : Bool), s.opa.toNat < 2 ^ 8 → s.opc.toNat < 2 ^ 8 → 20 ≤ s.opcap.toNat → s.opcap.toNat ≤ params.nsym →
    exec (.encodeRc6 tgl rpt) s = .next
      (if (orRepeat .rc6 rpt (frameRc6 (params.timing .rc6) s.opa.toNat s.opc.toNat tgl)).length ≤ s.opcap.toNat
        then encoded (orRepeat .rc6 rpt (frameRc6 (params.timing .rc6) s.opa.toNat s.opc.toNat tgl)) s
        else failedWith 3 s)) ∧
  (∀ (a c : Nat) (t : Bool), (frameRc6 (params.timing .rc6) a c t).length ≤ 22)

/-- ENCODE of the nine protocols without a frame rule raises UnsupportedProtocol, or uses ENC_EXT when it is given.
For every choice of the parameters in which ENC_EXT[P] is absent, ENCODE of a protocol P without a frame rule raises
UnsupportedProtocol with RES0 = 0 and changes nothing else, whatever the operands. The rows of SAMSUNG, JVC, LG,
MITSUBISHI, DISH, AIWA, DENON, WHYNTER and GENERIC, with operands within the registry widths: UnsupportedProtocol when
ENC_EXT[P] is absent; else InvalidArgument for a capacity above NSYM, BufferTooSmall for one below its MINCAP or below
the length of the frame, and in every other case the frame of ENC_EXT[P] (or the repeat frame when rpt and has_repeat)
is stored. That these rows read rpt, and that rpt replaces the frame of ENC_EXT, is DEDUCED (log 13), as are the
limits of ENC_EXT (log 19). (41_symbol_encoder R97; 41_symbol_encoder R98; 41_symbol_encoder R106; 41_symbol_encoder
R91) -/
def Obligations.EncodeWithoutAFrameRule : Prop :=
  (∀ (p : Params) (sel : FrameSel) (s : State), hasFrameRule sel.proto = false → p.encExt sel.proto = none →
    encodeOp p sel s = failedWith 4 s) ∧
  (∀ (s : State) (rpt : Bool),
    ∀ q ∈ [(Instr.encodeSamsung rpt, Proto.samsung), (.encodeJvc rpt, .jvc), (.encodeLg rpt, .lg),
        (.encodeMitsubishi rpt, .mitsubishi), (.encodeDish rpt, .dish), (.encodeAiwa rpt, .aiwa),
        (.encodeDenon rpt, .denon), (.encodeWhynter rpt, .whynter), (.encodeGeneric rpt, .generic)],
      s.opa.toNat < 2 ^ (info params q.2).addressBits.toNat → s.opc.toNat < 2 ^ (info params q.2).commandBits.toNat →
      exec q.1 s = .next (match params.encExt q.2 with
        | none => failedWith 4 s
        | some e =>
          let F := orRepeat q.2 rpt (e.frame s.opa.toNat s.opc.toNat)
          if params.nsym < s.opcap.toNat then failedWith 2 s
          else if s.opcap.toNat < e.minCap ∨ s.opcap.toNat < F.length then failedWith 3 s
          else encoded F s))

/-- An ENCODE that raises a result changes ERR and RES0 and nothing else. Every ENCODE row, in every state, answers a
next state; when its ERR is not OK, that state is the old one with RES0 = 0 and ERR changed; for the reserved Sony
variant, RES0 is 0 or as before (the model's choice, log 12). (41_symbol_encoder R81; 20_memory R42; 60_exceptions
R142) -/
def Obligations.FailedEncodeChangesOnlyErrAndRes0 : Prop :=
  ∀ (i : Instr) (s : State), isEncode i = true →
    ∃ t, exec i s = .next t ∧ (t.err ≠ 0 →
      t = if i = .encodeSonyVar3 then illegalWith 4 .sonyVar3 t.err s else failedWith t.err s)

/-- A capacity below the minimum is BufferTooSmall and one above NSYM is InvalidArgument. For a protocol with a frame
rule and operands within their widths: a capacity above NSYM raises InvalidArgument; one below MINCAP raises
BufferTooSmall (33 for NEC, 19 for RC6, and 33 also for the NEC repeat frame); and whenever a frame is produced it is
no longer than the capacity. Stated for every legal choice of the parameters. The ENCODE rows, with the numbers of the
tables written out (forms: MINCAP 34 for NEC, its repeat frame and NEC_EXT, 13, 16 and 21 for SONY, 14 for RC5 and
extended RC5, 20 for RC6, 49 for PANASONIC and KASEIKYO, 16 for SHARP, 52 for COOLIX, the one of ENC_EXT for the nine
other protocols): with operands within their widths and a capacity below MINCAP or above NSYM, the row raises
UnsupportedProtocol when the protocol has no encoder, else InvalidArgument above NSYM, else BufferTooSmall, with RES0
= 0 and nothing else changed. (41_symbol_encoder R81; 41_symbol_encoder R83; 40_registry R75; 30_encoding R61;
60_exceptions R141) -/
def Obligations.CapacityChecks : Prop :=
  (∀ (p : Params) (sel : FrameSel) (x0 x1 : Word) (cap : Nat), ParamsLegal p → hasFrameRule sel.proto = true →
    x0.toNat < 2 ^ waddr p sel → x1.toNat < 2 ^ wcmd p sel →
    (p.nsym < cap → encodeFrame p sel x0 x1 cap = .error .invalidArgument) ∧
    (cap < mincap p sel → encodeFrame p sel x0 x1 cap = .error .bufferTooSmall) ∧
    (∀ F, encodeFrame p sel x0 x1 cap = .ok F → F.length ≤ cap ∧ cap ≤ p.nsym)) ∧
  (∀ (s : State) (tgl rpt : Bool), ∀ r ∈ forms tgl rpt, s.opa.toNat < 2 ^ r.waddr → s.opc.toNat < 2 ^ r.wcmd →
    s.opcap.toNat < r.mincap ∨ params.nsym < s.opcap.toNat →
    exec r.encode s = .next (if hasEnc params r.proto = false then failedWith 4 s
      else if params.nsym < s.opcap.toNat then failedWith 2 s
      else failedWith 3 s))

/-- Out-of-width operands are rejected under STRICT = 1 and masked under STRICT = 0. For every choice of the
parameters and every protocol with an encoder: under STRICT = 1 an address or command of more bits than declared
raises InvalidArgument, before the capacity is looked at; under STRICT = 0 the result is that of the operands masked
to the declared widths. The ENCODE rows and the SEND and SENDN rows of the same form, with the widths of the table
written out (forms: address and command 8 and 8 for NEC, 16 and 8 for NEC_EXT, 5, 8, 13 and 7 for SONY, 5 and 6 for
RC5, 5 and 7 for extended RC5, 8 and 8 for RC6, 5 and 8 for SHARP, 16 and 32 for PANASONIC and KASEIKYO, 0 and 24 for
COOLIX, those of the registry for the nine others), on an operand wider than that, whatever the capacity and INIT:
UnsupportedProtocol when the protocol has no encoder, else InvalidArgument under STRICT = 1, with RES0 = 0 and nothing
else changed; under STRICT = 0 the next state is the one that the masked operands lead to, with x[0] and x[1] as they
were. For SEND and SENDN this compares two runs: both start with the same draws and so get the same hw_ok, which is
the model's choice (log 5, the counter). (41_symbol_encoder R82; 30_encoding R61; 30_encoding R62; 44_session R134;
44_session R136; 60_exceptions R141) -/
def Obligations.OutOfWidthOperandsFollowThePolicy : Prop :=
  (∀ (p : Params) (sel : FrameSel) (x0 x1 : Word) (cap : Nat), hasEnc p sel.proto = true →
    (p.strict = true → 2 ^ waddr p sel ≤ x0.toNat ∨ 2 ^ wcmd p sel ≤ x1.toNat →
      encodeFrame p sel x0 x1 cap = .error .invalidArgument) ∧
    (p.strict = false →
      encodeFrame p sel x0 x1 cap =
        encodeFrame p sel (BitVec.ofNat 32 (x0.toNat % 2 ^ waddr p sel)) (BitVec.ofNat 32 (x1.toNat % 2 ^ wcmd p sel)) cap)) ∧
  (∀ (s : State) (tgl rpt : Bool), ∀ r ∈ forms tgl rpt, ∀ i, i = r.encode ∨ encodeOf s i = some r.encode →
    2 ^ r.waddr ≤ s.opa.toNat ∨ 2 ^ r.wcmd ≤ s.opc.toNat →
    ∃ t, exec i { s with
        opa := BitVec.ofNat 32 (s.opa.toNat % 2 ^ r.waddr)
        opc := BitVec.ofNat 32 (s.opc.toNat % 2 ^ r.wcmd) } = .next t ∧
      exec i s = .next (if hasEnc params r.proto = false then failedWith 4 s
        else if params.strict = true then failedWith 2 s
        else { t with opa := s.opa, opc := s.opc }))

/-- What ENCODE produces depends on its operands alone. Two states with the same x[0], x[1] and x[2], whatever INIT,
IE, the toggles and everything else hold: an ENCODE gives the same ERR, the same RES0 (or both keep theirs, which the
reserved Sony variant may do: the model's choice, log 12) and, when it succeeds, the same SYMLEN and the same symbols
in SYM[0 .. SYMLEN-1]. (41_symbol_encoder R80) -/
def Obligations.EncodeReadsOnlyItsOperands : Prop :=
  ∀ (i : Instr) (s s' t t' : State), isEncode i = true →
    s.opa = s'.opa → s.opc = s'.opc → s.opcap = s'.opcap → Memory.wf s.sym = true → Memory.wf s'.sym = true →
    exec i s = .next t → exec i s' = .next t' →
    t.err = t'.err ∧ (t.res0 = t'.res0 ∨ (i = .encodeSonyVar3 ∧ t.res0 = s.res0 ∧ t'.res0 = s'.res0)) ∧
    (t.err = 0 → t.symLen = t'.symLen ∧ ∀ k, k < t.symLen.toNat → symGet t.sym k = symGet t'.sym k)

/-! ## Frames -/

/-- The frames of the pulse-coded protocols have the stated constant lengths. For every legal catalog entry and all
operands: NEC 34, NEC_EXT 34, the repeat frame of NEC 2, SONY 13, 16 and 21, SHARP 16 with a stop and 15 without,
PANASONIC 49, KASEIKYO 49, COOLIX 52. (41_symbol_encoder R107; 40_registry R75) -/
def Obligations.PulseFrameLengths : Prop :=
  ∀ (t : TimingSpec) (x : TimingExt) (a c : Nat),
    (TimingLegal .nec t → (frameNec t a c).length = 34 ∧ (frameRpt t x).length = 2) ∧
    (TimingLegal .necExt t → (frameNecExt t a c).length = 34) ∧
    (frameSony t 5 a c).length = 13 ∧ (frameSony t 8 a c).length = 16 ∧ (frameSony t 13 a c).length = 21 ∧
    (frameSharp t a c).length = (if t.stopBitUs = none then 15 else 16) ∧
    (framePanasonic t a c).length = 49 ∧ (frameKaseikyo t a c).length = 49 ∧
    (TimingLegal .coolix t → (frameCoolix t x c).length = 52)

/-- Every NEC data frame has sixteen 1 bits and sixteen 0 bits, hence one total duration. For all a and c below 256
the 32 data bits of an NEC frame hold exactly sixteen ones, so the total duration of the frame does not depend on a
and c. (41_symbol_encoder R89) -/
def Obligations.NecFrameIsBalanced : Prop :=
  ∀ (t : TimingSpec) (a c a' c' : Nat), a < 256 → c < 256 → a' < 256 → c' < 256 →
    (necBits a c).count true = 16 ∧ (necBits a c).count false = 16 ∧
    dur (frameNec t a c) = dur (frameNec t a' c')

/-- The Sharp check bit makes the number of ones even. For all a and c: a Sharp frame is the 13 data bits, an
expansion bit 0, a check bit p and the stop, and the number of ones among the 13 data bits and p is even.
(41_symbol_encoder R93) -/
def Obligations.SharpCheckBitIsEven : Prop :=
  ∀ (t : TimingSpec) (a c : Nat), ∃ p : Bool,
    frameSharp t a c = bitSymbols t (bitsMsb a 5 ++ bitsMsb c 8 ++ [false, p]) ++ stop t ∧
    ((bitsMsb a 5 ++ bitsMsb c 8 ++ [p]).count true) % 2 = 0

/-- An RC5 frame has 14 - n10 symbols and lasts 27 half-bit times. For every catalog entry with 1 <= HB and 3 * HB <
2^32, plain and extended, all operands: the number of symbols is 14 less the number of places where a 1 is directly
followed by a 0 in the fourteen bits, it lies between 7 and 14, and the total duration is 27 * HB. For a command below
64 the extended frame is the plain one. The length and duration of the extended frame rest on the second start bit
being its field bit, which is PRESUMED and the model's choice (log 23; R114 marks it as general knowledge).
(42_manchester R113; 42_manchester R114; 42_manchester R116) -/
def Obligations.Rc5FrameLengthAndDuration : Prop :=
  ∀ (ts : TimingSpec) (a c : Nat) (t : Bool), 1 ≤ halfBit ts → 3 * halfBit ts < 2 ^ 32 →
    (frameRc5 ts a c t).length + adjacent true false (rc5Bits a c t) = 14 ∧
    (frameRc5x ts a c t).length + adjacent true false (rc5xBits a c t) = 14 ∧
    7 ≤ (frameRc5 ts a c t).length ∧ 7 ≤ (frameRc5x ts a c t).length ∧
    dur (frameRc5 ts a c t) = 27 * halfBit ts ∧ dur (frameRc5x ts a c t) = 27 * halfBit ts ∧
    (c < 64 → frameRc5x ts a c t = frameRc5 ts a c t)

/-- An RC6 frame has 22 - n01 symbols and lasts the header and 44 half-bit times. For every legal catalog entry of RC6
with 1 <= HB and all operands: the number of symbols is 22 less the number of places where a 0 is directly followed by
a 1 in the 21 bits, it lies between 13 and 22, and the total duration is header mark + header space + 44 * HB.
(42_manchester R115; 42_manchester R116) -/
def Obligations.Rc6FrameLengthAndDuration : Prop :=
  ∀ (ts : TimingSpec) (a c : Nat) (t : Bool), TimingLegal .rc6 ts → 1 ≤ halfBit ts →
    (frameRc6 ts a c t).length +
        adjacent false true ([true, false, false, false, t] ++ bitsMsb a 8 ++ bitsMsb c 8) = 22 ∧
    13 ≤ (frameRc6 ts a c t).length ∧
    dur (frameRc6 ts a c t) = ts.headerMarkUs.toNat + ts.headerSpaceUs.toNat + 44 * halfBit ts

/-- The toggle bit of a Manchester frame changes the order of the two runs of its cell and nothing else. In RC5 (plain
and extended) the toggle is cell 2, in RC6 cell 4 after the header and of double width; the runs before and after that
cell do not depend on the toggle bit, and the cell of the complement is the cell with its two runs exchanged. (R117)
-/
def Obligations.ToggleBitChangesOnlyItsCell : Prop :=
  ∀ (ts : TimingSpec) (a c : Nat),
    (∃ before after, before.length = 2 * 2 ∧
      ∀ t, cells rc5First (halfBit ts) (rc5Bits a c t) = before ++ cell rc5First (halfBit ts) t 1 ++ after) ∧
    (∃ before after, before.length = 2 * 2 ∧
      ∀ t, cells rc5First (halfBit ts) (rc5xBits a c t) = before ++ cell rc5First (halfBit ts) t 1 ++ after) ∧
    (∃ before after, before.length = 2 + 2 * 4 ∧
      ∀ t, rc6Runs ts a c t = before ++ cell rc6First (halfBit ts) t 2 ++ after) ∧
    (∀ t w, (cell rc5First (halfBit ts) (!t) w).map Run.us = (cell rc5First (halfBit ts) t w).map Run.us ∧
      cell rc5First (halfBit ts) (!t) w = (cell rc5First (halfBit ts) t w).reverse ∧
      cell rc6First (halfBit ts) (!t) w = (cell rc6First (halfBit ts) t w).reverse)

/-- Packing runs into symbols changes only how the waveform is spelled. For every run list whose durations add up to
less than 2^32 microseconds, the waveform of the packed symbols and the waveform of the runs, taken from the first
mark on, have the same normal form: merging, pairing and the final space of 0 change nothing on the pin but the
leading silence. (42_manchester R109; 42_manchester R112; 10_state R30) -/
def Obligations.PackingKeepsTheWaveform : Prop :=
  ∀ (R : List Run) (f : Word) (d : Duty), (R.map Run.us).sum < 2 ^ 32 →
    norm (waveOf f d (pack R)) = norm (runItems f d (fromFirstMark R))

/-- A frame of each pulse-coded protocol with a frame rule determines its address and command. For a catalog entry
whose 1 and 0 symbols differ, equal frames of NEC, NEC_EXT, SONY (each variant), SHARP, PANASONIC, KASEIKYO and COOLIX
come from equal operands within their widths. An entry that agrees with the description of its pulse-coded class (R77)
is such an entry, SHARP and DISH among them. (41_symbol_encoder R108; 40_registry R76; 40_registry R77) -/
def Obligations.PulseFramesDetermineTheirOperands : Prop :=
  (∀ (P : Proto) (t : TimingSpec), classOf P = some .pulseDistance ∨ classOf P = some .pulseWidth →
    ClassLegal P t → bitSymbol t true ≠ bitSymbol t false) ∧
  ∀ (t : TimingSpec) (x : TimingExt) (a c a' c' : Nat), bitSymbol t true ≠ bitSymbol t false →
    (a < 2 ^ 8 → a' < 2 ^ 8 → c < 2 ^ 8 → c' < 2 ^ 8 → frameNec t a c = frameNec t a' c' → a = a' ∧ c = c') ∧
    (a < 2 ^ 16 → a' < 2 ^ 16 → c < 2 ^ 8 → c' < 2 ^ 8 →
      frameNecExt t a c = frameNecExt t a' c' → a = a' ∧ c = c') ∧
    (∀ wa ∈ [5, 8, 13], a < 2 ^ wa → a' < 2 ^ wa → c < 2 ^ 7 → c' < 2 ^ 7 →
      frameSony t wa a c = frameSony t wa a' c' → a = a' ∧ c = c') ∧
    (a < 2 ^ 5 → a' < 2 ^ 5 → c < 2 ^ 8 → c' < 2 ^ 8 → frameSharp t a c = frameSharp t a' c' → a = a' ∧ c = c') ∧
    (a < 2 ^ 16 → a' < 2 ^ 16 → c < 2 ^ 32 → c' < 2 ^ 32 →
      framePanasonic t a c = framePanasonic t a' c' → a = a' ∧ c = c') ∧
    (a < 2 ^ 16 → a' < 2 ^ 16 → c < 2 ^ 32 → c' < 2 ^ 32 →
      frameKaseikyo t a c = frameKaseikyo t a' c' → a = a' ∧ c = c') ∧
    (c < 2 ^ 24 → c' < 2 ^ 24 → frameCoolix t x c = frameCoolix t x c' → c = c')

/-- A Manchester frame determines its address, command and toggle bit. For a half-bit time of at least 1 (and, for
RC6, a legal catalog entry), equal frames of RC5, of extended RC5 and of RC6 come from equal operands within their
widths and equal toggle bits. (41_symbol_encoder R108; 42_manchester R113; 42_manchester R114; 42_manchester R115) -/
def Obligations.ManchesterFramesDetermineTheirOperands : Prop :=
  ∀ (ts : TimingSpec) (a c a' c' : Nat) (t t' : Bool), 1 ≤ halfBit ts → 3 * halfBit ts < 2 ^ 32 →
    (a < 2 ^ 5 → a' < 2 ^ 5 → c < 2 ^ 6 → c' < 2 ^ 6 →
      frameRc5 ts a c t = frameRc5 ts a' c' t' → a = a' ∧ c = c' ∧ t = t') ∧
    (a < 2 ^ 5 → a' < 2 ^ 5 → c < 2 ^ 7 → c' < 2 ^ 7 →
      frameRc5x ts a c t = frameRc5x ts a' c' t' → a = a' ∧ c = c' ∧ t = t') ∧
    (TimingLegal .rc6 ts → a < 2 ^ 8 → a' < 2 ^ 8 → c < 2 ^ 8 → c' < 2 ^ 8 →
      frameRc6 ts a c t = frameRc6 ts a' c' t' → a = a' ∧ c = c' ∧ t = t')

/-- The durations of a waveform add up to the durations of its symbols. For every symbol list, frequency and duty
cycle, the sum over the items of WAVEOF is DUR of the symbols, and taking the normal form does not change the sum.
(43_carrier R130; 10_state R30) -/
def Obligations.WaveformLastsAsLongAsItsSymbols : Prop :=
  ∀ (S : List Symbol) (f : Word) (d : Duty), waveDur (waveOf f d S) = dur S ∧ waveDur (norm (waveOf f d S)) = dur S

/-! ## Carrier -/

/-- INIT configures the carrier, or reports a hardware failure. With a frequency of at least 1 and a duty of at most
100: when the draw hw_ok is 1, INIT writes CFREQ and CDUTY, sets INIT, clears FAULT and CARRIER and ends OK; when it
is 0, INIT clears INIT and CARRIER, sets FAULT and raises HwFailure. One attempt more has been made; nothing else
changes (the toggle bits, SYM, SYMLEN, IE and WAVE among it). With any other operands it raises InvalidArgument and
changes nothing but ERR. A command word with op = 1 presented between operations does exactly this, whatever the
fields not read hold, raises InvalidArgument when a reserved bit is set, and is never run during a transmission.
(R119) -/
def Obligations.InitConfiguresTheCarrier : Prop :=
  (∀ s : State, s.opfreq ≠ 0 → s.opduty.toNat ≤ 100 →
    exec .init s = .next (if params.hwOk s.draws = true then
        { s with draws := s.draws + 1, cfreq := s.opfreq, cduty := s.opduty.setWidth 7, carrier := false, init := true,
                 fault := false, err := 0 }
      else { s with draws := s.draws + 1, init := false, fault := true, carrier := false, err := 5 })) ∧
  (∀ s : State, s.opfreq = 0 ∨ 100 < s.opduty.toNat → exec .init s = .next { s with err := 2 }) ∧
  (∀ (s : State) (w : BitVec 32) (rest : List HostAction), s.uport = [] → s.port = .command w :: rest → cwOp w = 1 →
    step s = if s.phase ≠ .idle then .refused .overlappedOperation
      else if cwReserved w ≠ 0 then .next { s with port := rest, err := 2 }
      else exec .init { s with port := rest })

/-- TRANSMIT puts the waveform of the symbols on the pin, or raises a result before any pulse. With legal operands,
INIT = 1 and SYM[0 .. x[3]-1] = S written: when hw_ok is 1, TRANSMIT configures the carrier for x[4] and x[5], appends
Idle and WAVEOF(S, x[4], x[5]) to WAVE, leaves IE as it was, the sequencer idle and CARRIER off after the last space,
and ends OK; when it is 0, it clears INIT, sets FAULT and raises HwFailure with no output. SYM, SYMLEN, RES0 and the
toggles do not change. With a frequency of 0, a duty above 100 or a length above NSYM it raises InvalidArgument, also
when INIT = 0; with legal operands and INIT = 0 it raises NotInitialized; then nothing but ERR changes. (The values
left in IDX, LEN and REM are the model's: log 20.) (43_carrier R120; 43_carrier R124; 43_carrier R129; 60_exceptions
R141) -/
def Obligations.TransmitEmitsTheWaveform : Prop :=
  (∀ (s : State) (S : List Symbol), s.opfreq ≠ 0 → s.opduty.toNat ≤ 100 → s.oplen.toNat ≤ params.nsym →
    s.init = true → S.length = s.oplen.toNat → (∀ k, k < S.length → symGet s.sym k = S[k]?) →
    exec .transmit s = .next (if params.hwOk s.draws = true then
        { emitted S { s with draws := s.draws + 1, cfreq := s.opfreq, cduty := s.opduty.setWidth 7 } with err := 0 }
      else { s with draws := s.draws + 1, init := false, fault := true, err := 5 })) ∧
  (∀ s : State, s.opfreq = 0 ∨ 100 < s.opduty.toNat ∨ params.nsym < s.oplen.toNat →
    exec .transmit s = .next { s with err := 2 }) ∧
  (∀ s : State, s.opfreq ≠ 0 → s.opduty.toNat ≤ 100 → s.oplen.toNat ≤ params.nsym → s.init = false →
    exec .transmit s = .next { s with err := 1 })

/-- TRANSMIT of a range with an entry never written is a model fault. With legal operands and INIT = 1, when k is the
first entry of SYM[0 .. x[3]-1] that nothing has written: TRANSMIT ends in the model fault that names k when hw_ok is
1 (the entry is read after the configuration step), and raises HwFailure when it is 0. That the fault names the first
such entry, after the configuration step, is the model's choice (log 2, DEDUCED). (20_memory R43; 43_carrier R120;
60_exceptions R145) -/
def Obligations.TransmitFaultsOnAnUnwrittenEntry : Prop :=
  ∀ (s : State) (k : Nat), s.opfreq ≠ 0 → s.opduty.toNat ≤ 100 → s.oplen.toNat ≤ params.nsym → s.init = true →
    k < s.oplen.toNat → symGet s.sym k = none → (∀ j, j < k → symGet s.sym j ≠ none) →
    exec .transmit s = (if params.hwOk s.draws = true then .fault (.unwrittenSymbol k)
      else .next { s with draws := s.draws + 1, init := false, fault := true, err := 5 })

/-- CEN sets CARRIER and changes nothing else. CEN of any duty operand answers the state with CARRIER = 1 and
everything else, WAVE among it, as before; the pin then carries the wave of CFREQ and CDUTY. For an operand other than
CDUTY, or of 101 to 127, which the sequencer never issues, that CEN runs so and the pin shows CDUTY is the model's
choice (log 11; R126 speaks of the duty d). (43_carrier R126; 10_state R28) -/
def Obligations.CenEnablesTheCarrier : Prop :=
  ∀ (d : Duty) (s : State), exec (.cen d) s = .next { s with carrier := true } ∧
    ({ s with carrier := true } : State).pin = .wave s.cfreq s.cduty

/-- CDIS clears CARRIER and changes nothing else. The word with uop = 2 and arg = 0 is CDIS; CDIS answers the state
with CARRIER = 0, the pin at its inactive level, and everything else as before; with CARRIER = 0 it changes nothing.
(R127) -/
def Obligations.CdisDisablesTheCarrier : Prop :=
  decode (.uw (2#2 ++ 0#32)) = .ok .cdis ∧
  ∀ s : State, exec .cdis s = .next { s with carrier := false } ∧
    ({ s with carrier := false } : State).pin = .inactive ∧ (s.carrier = false → exec .cdis s = .next s)

/-- DLY appends one item of its duration to WAVE, none when the duration is 0, and changes nothing else. The word with
uop = 3 and arg = n is DLY of n microseconds, for every n. For n = 0 nothing changes; else On(CFREQ, CDUTY, n) is
appended to WAVE when CARRIER = 1 and Off(n) when CARRIER = 0, and nothing else changes. CEN and CDIS record nothing.
(R128) -/
def Obligations.DlyRecordsTheTimeThatPasses : Prop :=
  (∀ n : Word, decode (.uw (3#2 ++ n)) = .ok (.dly n)) ∧
  (∀ (n : Word) (s : State),
    exec (.dly n) s = .next (if n = 0 then s
      else { s with wave := s.wave ++ [if s.carrier = true then .on s.cfreq s.cduty n.toNat else .off n.toNat] })) ∧
  (∀ (d : Duty) (s t : State), exec (.cen d) s = .next t ∨ exec .cdis s = .next t → t.wave = s.wave)

/-- The small steps of the sequencer lead to the state of the big step. Let S be a non-empty sequence of symbols
written in SYM from entry 0 on, in a state with no host action and no micro-operation waiting. From the move out of
IDLE, six steps of the machine for each symbol (the phase, its two micro-operations, twice) end in the state that
emitting S in one big step and ending OK gives: the critical section left, WAVE longer by the waveform of S. That a
phase takes three steps of the machine (log 10), that the words wait in a list (log 11), and what IDX, LEN and REM
hold in the end (log 20) are the model's choices. (43_carrier R123; 43_carrier R124; 43_carrier R125) -/
def Obligations.SmallStepsMakeTheBigStep : Prop :=
  ∀ (s : State) (S : List Symbol), S ≠ [] → S.length < 2 ^ 32 → s.port = [] → s.uport = [] →
    (∀ k, k < S.length → symGet s.sym k = S[k]?) →
    Sys2Proof.core.run (6 * S.length) (startSeq S (critEnter s)) = .next { emitted S s with err := 0 }

/-! ## Session -/

/-- SEND of NEC, NEC_EXT and SONY emits the frame of its rule. With address and command within their widths and INIT =
1: when hw_ok is 1, the frame of the rule is stored in SYM and emitted with the carrier of the catalog (sentFrame),
ending OK with the toggles as before; when it is 0, INIT is cleared, FAULT set, RES0 is 0 and HwFailure raised with no
output. SEND.SONY.VAR3 raises InvalidArgument and changes nothing else but RES0, which is 0 or as before (illegalWith;
the model's choice, log 12). The values that IDX, LEN and REM are left with are the model's choice (log 20). That the
repeat frame of SONY ends with the stop of the catalog, as R91 says, also where R79 speaks of a stop never read, is
DEDUCED and the model's choice (log 26). (44_session R134; 41_symbol_encoder R89; 41_symbol_encoder R90;
41_symbol_encoder R91; 41_symbol_encoder R92; 43_carrier R129) -/
def Obligations.SendNecAndSony : Prop :=
  (∀ (s : State), s.opa.toNat < 2 ^ 8 → s.opc.toNat < 2 ^ 8 → s.init = true →
    exec .sendNec s = .next (if params.hwOk s.draws = true then sentFrame .nec false
      (hdr (params.timing .nec) ++ bitSymbols (params.timing .nec) (bitsLsb s.opa.toNat 8 ++ bitsLsb (255 -
        s.opa.toNat) 8 ++ bitsLsb s.opc.toNat 8 ++ bitsLsb (255 - s.opc.toNat) 8) ++ stop (params.timing
        .nec)) s
      else configurationFailed s)) ∧
  (∀ (s : State), s.opa.toNat < 2 ^ 8 → s.opc.toNat < 2 ^ 8 → s.init = true →
    exec .sendNecRpt s = .next (if params.hwOk s.draws = true then sentFrame .nec false
      (⟨(params.ext .nec).rptMarkUs, (params.ext .nec).rptSpaceUs⟩ :: stop (params.timing .nec)) s
      else configurationFailed s)) ∧
  (∀ (s : State) (rpt : Bool), s.opa.toNat < 2 ^ 16 → s.opc.toNat < 2 ^ 8 → s.init = true →
    exec (.sendNecExt rpt) s = .next (if params.hwOk s.draws = true then sentFrame .necExt false
      (orRepeat .necExt rpt (hdr (params.timing .necExt) ++ bitSymbols (params.timing .necExt) (bitsLsb
        s.opa.toNat 16 ++ bitsLsb s.opc.toNat 8 ++ bitsLsb (255 - s.opc.toNat) 8) ++ stop (params.timing
        .necExt))) s
      else configurationFailed s)) ∧
  (∀ (s : State) (rpt : Bool), s.opa.toNat < 2 ^ 5 → s.opc.toNat < 2 ^ 7 → s.init = true →
    exec (.sendSony12 rpt) s = .next (if params.hwOk s.draws = true then sentFrame .sony false
      (orRepeat .sony rpt (hdr (params.timing .sony) ++ bitSymbols (params.timing .sony) (bitsLsb s.opc.toNat
        7 ++ bitsLsb s.opa.toNat 5))) s
      else configurationFailed s)) ∧
  (∀ (s : State) (rpt : Bool), s.opa.toNat < 2 ^ 8 → s.opc.toNat < 2 ^ 7 → s.init = true →
    exec (.sendSony15 rpt) s = .next (if params.hwOk s.draws = true then sentFrame .sony false
      (orRepeat .sony rpt (hdr (params.timing .sony) ++ bitSymbols (params.timing .sony) (bitsLsb s.opc.toNat
        7 ++ bitsLsb s.opa.toNat 8))) s
      else configurationFailed s)) ∧
  (∀ (s : State) (rpt : Bool), s.opa.toNat < 2 ^ 13 → s.opc.toNat < 2 ^ 7 → s.init = true →
    exec (.sendSony20 rpt) s = .next (if params.hwOk s.draws = true then sentFrame .sony false
      (orRepeat .sony rpt (hdr (params.timing .sony) ++ bitSymbols (params.timing .sony) (bitsLsb s.opc.toNat
        7 ++ bitsLsb s.opa.toNat 13))) s
      else configurationFailed s)) ∧
  (∀ s : State, exec .sendSonyVar3 s = .next (illegalWith 6 .sonyVar3 2 s))

/-- SEND of SHARP, PANASONIC, KASEIKYO and COOLIX emits the frame of its rule. With address and command within their
widths and INIT = 1: when hw_ok is 1, the frame of the rule is stored in SYM and emitted with the carrier of the
catalog (sentFrame), ending OK with the toggles as before; when it is 0, INIT is cleared, FAULT set, RES0 is 0 and
HwFailure raised with no output. With rpt and has_repeat the first frame is the repeat frame; that these rows read rpt
is DEDUCED (log 13). The values that IDX, LEN and REM are left with are the model's choice (log 20). That the repeat
frame of PANASONIC and KASEIKYO ends with the stop of the catalog, as R91 says, also where R79 speaks of a stop never
read, is DEDUCED and the model's choice (log 26). (44_session R134; 41_symbol_encoder R91; 41_symbol_encoder R93;
41_symbol_encoder R94; 41_symbol_encoder R95; 41_symbol_encoder R96; 43_carrier R129) -/
def Obligations.SendSharpPanasonicKaseikyoCoolix : Prop :=
  (∀ (s : State) (rpt : Bool), s.opa.toNat < 2 ^ 5 → s.opc.toNat < 2 ^ 8 → s.init = true →
    exec (.sendSharp rpt) s = .next (if params.hwOk s.draws = true then sentFrame .sharp false
      (orRepeat .sharp rpt (bitSymbols (params.timing .sharp) (bitsMsb s.opa.toNat 5 ++ bitsMsb s.opc.toNat 8
        ++ [false, xorAll (bitsMsb s.opa.toNat 5 ++ bitsMsb s.opc.toNat 8)]) ++ stop (params.timing .sharp))) s
      else configurationFailed s)) ∧
  (∀ (s : State) (rpt : Bool), s.opa.toNat < 2 ^ 16 → s.init = true →
    exec (.sendPanasonic rpt) s = .next (if params.hwOk s.draws = true then sentFrame .panasonic false
      (orRepeat .panasonic rpt (hdr (params.timing .panasonic) ++ bitSymbols (params.timing .panasonic)
        (bitsLsb s.opa.toNat 16 ++ bitsLsb s.opc.toNat 32))) s
      else configurationFailed s)) ∧
  (∀ (s : State) (rpt : Bool), s.opa.toNat < 2 ^ 16 → s.init = true →
    exec (.sendKaseikyo rpt) s = .next (if params.hwOk s.draws = true then sentFrame .kaseikyo false
      (orRepeat .kaseikyo rpt (hdr (params.timing .kaseikyo) ++ bitSymbols (params.timing .kaseikyo) (bitsLsb
        s.opa.toNat 16 ++ bitsLsb s.opc.toNat 32))) s
      else configurationFailed s)) ∧
  (∀ (s : State) (rpt : Bool), s.opa = 0 → s.opc.toNat < 2 ^ 24 → s.init = true →
    exec (.sendCoolix rpt) s = .next (if params.hwOk s.draws = true then sentFrame .coolix false
      (orRepeat .coolix rpt (hdr (params.timing .coolix) ++ bitSymbols (params.timing .coolix) (bitsLsb
        s.opc.toNat 24) ++ [⟨(params.timing .coolix).stopBitUs.getD 0, (params.ext .coolix).footerSpaceUs⟩]
        ++ (hdr (params.timing .coolix) ++ bitSymbols (params.timing .coolix) (bitsLsb s.opc.toNat 24)) ++
        stop (params.timing .coolix))) s
      else configurationFailed s))

/-- SEND of RC5, extended RC5 and RC6 emits the frame with the right toggle bit and flips it when auto. With address
and command within their widths and INIT = 1: the toggle bit of the frame is TOGGLE[proto] when auto = 1 and the tgl
field when auto = 0; when hw_ok is 1, the frame of the rule is stored in SYM and emitted with the carrier of the
catalog (sentFrame), TOGGLE[proto] is flipped once when auto = 1 and kept when auto = 0, and the result is OK; when it
is 0, INIT is cleared, FAULT set, RES0 is 0 and HwFailure raised with no output. With rpt and has_repeat the first
frame is the repeat frame; that these rows read rpt is DEDUCED (log 13), and that the field bit of extended RC5 is the
second start bit is PRESUMED (log 23). The values that IDX, LEN and REM are left with are the model's choice (log 20).
(44_session R134; 41_symbol_encoder R91; 44_session R133; 41_symbol_encoder R88; 42_manchester R113; 42_manchester
R114; 42_manchester R115; 43_carrier R129) -/
def Obligations.SendManchesterWithToggle : Prop :=
  (∀ (s : State) (tgl auto rpt : Bool), s.opa.toNat < 2 ^ 5 → s.opc.toNat < 2 ^ 6 → s.init = true →
    exec (.sendRc5 tgl auto rpt) s = .next (if params.hwOk s.draws = true then sentFrame .rc5 auto
      (orRepeat .rc5 rpt (pack (cells rc5First (halfBit (params.timing .rc5)) ([true, true, (if auto then
        s.toggleRc5 else tgl)] ++ bitsMsb s.opa.toNat 5 ++ bitsMsb s.opc.toNat 6)))) s
      else configurationFailed s)) ∧
  (∀ (s : State) (tgl auto rpt : Bool), s.opa.toNat < 2 ^ 5 → s.opc.toNat < 2 ^ 7 → s.init = true →
    exec (.sendRc5X tgl auto rpt) s = .next (if params.hwOk s.draws = true then sentFrame .rc5 auto
      (orRepeat .rc5 rpt (pack (cells rc5First (halfBit (params.timing .rc5)) ([true, !(s.opc.toNat.testBit
        6), (if auto then s.toggleRc5 else tgl)] ++ bitsMsb s.opa.toNat 5 ++ bitsMsb (s.opc.toNat % 64) 6)))) s
      else configurationFailed s)) ∧
  (∀ (s : State) (tgl auto rpt : Bool), s.opa.toNat < 2 ^ 8 → s.opc.toNat < 2 ^ 8 → s.init = true →
    exec (.sendRc6 tgl auto rpt) s = .next (if params.hwOk s.draws = true then sentFrame .rc6 auto
      (orRepeat .rc6 rpt (frameRc6 (params.timing .rc6) s.opa.toNat s.opc.toNat (if auto then s.toggleRc6
        else tgl))) s
      else configurationFailed s))

/-- SEND of the nine protocols without a frame rule raises UnsupportedProtocol, or emits the frame of ENC_EXT. For
every choice of the parameters in which ENC_EXT[P] is absent, SEND of a protocol P without a frame rule raises
UnsupportedProtocol with RES0 = 0 and changes nothing else, also when INIT = 0. The nine rows, with operands within
the registry widths and INIT = 1: UnsupportedProtocol when ENC_EXT[P] is absent; else BufferTooSmall when its MINCAP
is above NSYM; else, when hw_ok is 1, the frame of the rule is stored in SYM and emitted with the carrier of the
catalog (sentFrame), ending OK with the toggles as before; when it is 0, INIT is cleared, FAULT set, RES0 is 0 and
HwFailure raised with no output. With rpt and has_repeat the first frame is the repeat frame; that these rows read rpt
is DEDUCED (log 13), as are the limits of ENC_EXT (log 19). The values that IDX, LEN and REM are left with are the
model's choice (log 20). (44_session R134; 41_symbol_encoder R97; 41_symbol_encoder R91; 60_exceptions R141) -/
def Obligations.SendWithoutAFrameRule : Prop :=
  (∀ (p : Params) (sel : FrameSel) (auto : Bool) (s : State), hasFrameRule sel.proto = false → p.encExt sel.proto = none →
    sendOp p sel auto s = failedWith 4 s) ∧
  (∀ (s : State) (rpt : Bool),
    ∀ q ∈ [(Instr.sendSamsung rpt, Proto.samsung), (.sendJvc rpt, .jvc), (.sendLg rpt, .lg), (.sendMitsubishi
        rpt, .mitsubishi), (.sendDish rpt, .dish), (.sendAiwa rpt, .aiwa), (.sendDenon rpt, .denon),
        (.sendWhynter rpt, .whynter), (.sendGeneric rpt, .generic)],
      s.opa.toNat < 2 ^ (info params q.2).addressBits.toNat → s.opc.toNat < 2 ^ (info params q.2).commandBits.toNat →
      s.init = true → exec q.1 s = .next (match params.encExt q.2 with
        | none => failedWith 4 s
        | some e =>
          let F := orRepeat q.2 rpt (e.frame s.opa.toNat s.opc.toNat)
          if params.nsym < e.minCap then failedWith 3 s
          else if params.hwOk s.draws = true then sentFrame q.2 false F s
          else configurationFailed s))

/-- SENDN of NEC, NEC_EXT and SONY emits the frames of its cadence. With address and command within their widths and
INIT = 1: when hw_ok is 1, the frame of the rule and then RPT_COUNT - 1 further frames (repeat frames when has_repeat)
are stored and emitted, the gap RPT_GAP_US before each further one (sentCadence), ending OK with the toggles as
before; when it is 0, INIT is cleared, FAULT set, RES0 is 0 and HwFailure raised with no output. CARRIER = 0 is the
premise that the operation is issued between operations. SENDN.SONY.VAR3 raises InvalidArgument and changes nothing
else but RES0, which is 0 or as before (illegalWith; the model's choice, log 12). The values that IDX, LEN and REM are
left with are the model's choice (log 20). That the repeat frame of SONY ends with the stop of the catalog, as R91
says, also where R79 speaks of a stop never read, is DEDUCED and the model's choice (log 26). (44_session R136;
41_symbol_encoder R89; 41_symbol_encoder R90; 41_symbol_encoder R91; 41_symbol_encoder R92; 43_carrier R129) -/
def Obligations.SendnNecAndSony : Prop :=
  (∀ (s : State), s.opa.toNat < 2 ^ 8 → s.opc.toNat < 2 ^ 8 → s.init = true → s.carrier = false →
    let F := hdr (params.timing .nec) ++ bitSymbols (params.timing .nec) (bitsLsb s.opa.toNat 8 ++ bitsLsb (255 -
        s.opa.toNat) 8 ++ bitsLsb s.opc.toNat 8 ++ bitsLsb (255 - s.opc.toNat) 8) ++ stop (params.timing
        .nec)
    exec .sendnNec s = .next (if params.hwOk s.draws = true then sentCadence .nec false F (nextFrame .nec F) s
      else configurationFailed s)) ∧
  (∀ (s : State), s.opa.toNat < 2 ^ 8 → s.opc.toNat < 2 ^ 8 → s.init = true → s.carrier = false →
    let F := ⟨(params.ext .nec).rptMarkUs, (params.ext .nec).rptSpaceUs⟩ :: stop (params.timing .nec)
    exec .sendnNecRpt s = .next (if params.hwOk s.draws = true then sentCadence .nec false F (nextFrame .nec F) s
      else configurationFailed s)) ∧
  (∀ (s : State) (rpt : Bool), s.opa.toNat < 2 ^ 16 → s.opc.toNat < 2 ^ 8 → s.init = true → s.carrier = false →
    let F := orRepeat .necExt rpt (hdr (params.timing .necExt) ++ bitSymbols (params.timing .necExt) (bitsLsb
        s.opa.toNat 16 ++ bitsLsb s.opc.toNat 8 ++ bitsLsb (255 - s.opc.toNat) 8) ++ stop (params.timing
        .necExt))
    exec (.sendnNecExt rpt) s = .next (if params.hwOk s.draws = true then sentCadence .necExt false F (nextFrame .necExt F) s
      else configurationFailed s)) ∧
  (∀ (s : State) (rpt : Bool), s.opa.toNat < 2 ^ 5 → s.opc.toNat < 2 ^ 7 → s.init = true → s.carrier = false →
    let F := orRepeat .sony rpt (hdr (params.timing .sony) ++ bitSymbols (params.timing .sony) (bitsLsb s.opc.toNat
        7 ++ bitsLsb s.opa.toNat 5))
    exec (.sendnSony12 rpt) s = .next (if params.hwOk s.draws = true then sentCadence .sony false F (nextFrame .sony F) s
      else configurationFailed s)) ∧
  (∀ (s : State) (rpt : Bool), s.opa.toNat < 2 ^ 8 → s.opc.toNat < 2 ^ 7 → s.init = true → s.carrier = false →
    let F := orRepeat .sony rpt (hdr (params.timing .sony) ++ bitSymbols (params.timing .sony) (bitsLsb s.opc.toNat
        7 ++ bitsLsb s.opa.toNat 8))
    exec (.sendnSony15 rpt) s = .next (if params.hwOk s.draws = true then sentCadence .sony false F (nextFrame .sony F) s
      else configurationFailed s)) ∧
  (∀ (s : State) (rpt : Bool), s.opa.toNat < 2 ^ 13 → s.opc.toNat < 2 ^ 7 → s.init = true → s.carrier = false →
    let F := orRepeat .sony rpt (hdr (params.timing .sony) ++ bitSymbols (params.timing .sony) (bitsLsb s.opc.toNat
        7 ++ bitsLsb s.opa.toNat 13))
    exec (.sendnSony20 rpt) s = .next (if params.hwOk s.draws = true then sentCadence .sony false F (nextFrame .sony F) s
      else configurationFailed s)) ∧
  (∀ s : State, exec .sendnSonyVar3 s = .next (illegalWith 8 .sonyVar3 2 s))

/-- SENDN of SHARP, PANASONIC, KASEIKYO and COOLIX emits the frames of its cadence. With address and command within
their widths and INIT = 1: when hw_ok is 1, the frame of the rule and then RPT_COUNT - 1 further frames (repeat frames
when has_repeat) are stored and emitted, the gap RPT_GAP_US before each further one (sentCadence), ending OK with the
toggles as before; when it is 0, INIT is cleared, FAULT set, RES0 is 0 and HwFailure raised with no output. CARRIER =
0 is the premise that the operation is issued between operations. With rpt and has_repeat the first frame is the
repeat frame; that these rows read rpt is DEDUCED (log 13). The values that IDX, LEN and REM are left with are the
model's choice (log 20). That the repeat frame of PANASONIC and KASEIKYO ends with the stop of the catalog, as R91
says, also where R79 speaks of a stop never read, is DEDUCED and the model's choice (log 26). (44_session R136;
41_symbol_encoder R91; 41_symbol_encoder R93; 41_symbol_encoder R94; 41_symbol_encoder R95; 41_symbol_encoder R96;
43_carrier R129) -/
def Obligations.SendnSharpPanasonicKaseikyoCoolix : Prop :=
  (∀ (s : State) (rpt : Bool), s.opa.toNat < 2 ^ 5 → s.opc.toNat < 2 ^ 8 → s.init = true → s.carrier = false →
    let F := orRepeat .sharp rpt (bitSymbols (params.timing .sharp) (bitsMsb s.opa.toNat 5 ++ bitsMsb s.opc.toNat 8
        ++ [false, xorAll (bitsMsb s.opa.toNat 5 ++ bitsMsb s.opc.toNat 8)]) ++ stop (params.timing .sharp))
    exec (.sendnSharp rpt) s = .next (if params.hwOk s.draws = true then sentCadence .sharp false F (nextFrame .sharp F) s
      else configurationFailed s)) ∧
  (∀ (s : State) (rpt : Bool), s.opa.toNat < 2 ^ 16 → s.init = true → s.carrier = false →
    let F := orRepeat .panasonic rpt (hdr (params.timing .panasonic) ++ bitSymbols (params.timing .panasonic)
        (bitsLsb s.opa.toNat 16 ++ bitsLsb s.opc.toNat 32))
    exec (.sendnPanasonic rpt) s = .next (if params.hwOk s.draws = true then sentCadence .panasonic false F (nextFrame .panasonic F) s
      else configurationFailed s)) ∧
  (∀ (s : State) (rpt : Bool), s.opa.toNat < 2 ^ 16 → s.init = true → s.carrier = false →
    let F := orRepeat .kaseikyo rpt (hdr (params.timing .kaseikyo) ++ bitSymbols (params.timing .kaseikyo) (bitsLsb
        s.opa.toNat 16 ++ bitsLsb s.opc.toNat 32))
    exec (.sendnKaseikyo rpt) s = .next (if params.hwOk s.draws = true then sentCadence .kaseikyo false F (nextFrame .kaseikyo F) s
      else configurationFailed s)) ∧
  (∀ (s : State) (rpt : Bool), s.opa = 0 → s.opc.toNat < 2 ^ 24 → s.init = true → s.carrier = false →
    let F := orRepeat .coolix rpt (hdr (params.timing .coolix) ++ bitSymbols (params.timing .coolix) (bitsLsb
        s.opc.toNat 24) ++ [⟨(params.timing .coolix).stopBitUs.getD 0, (params.ext .coolix).footerSpaceUs⟩]
        ++ (hdr (params.timing .coolix) ++ bitSymbols (params.timing .coolix) (bitsLsb s.opc.toNat 24)) ++
        stop (params.timing .coolix))
    exec (.sendnCoolix rpt) s = .next (if params.hwOk s.draws = true then sentCadence .coolix false F (nextFrame .coolix F) s
      else configurationFailed s))

/-- SENDN of RC5, extended RC5 and RC6 emits the frames with the right toggle bit and flips it when auto. With address
and command within their widths and INIT = 1: the toggle bit of the frame is TOGGLE[proto] when auto = 1 and the tgl
field when auto = 0; when hw_ok is 1, the frame of the rule and then RPT_COUNT - 1 further frames (repeat frames when
has_repeat) are stored and emitted, the gap RPT_GAP_US before each further one (sentCadence), TOGGLE[proto] is flipped
once when auto = 1 and kept when auto = 0, and the result is OK; when it is 0, INIT is cleared, FAULT set, RES0 is 0
and HwFailure raised with no output. CARRIER = 0 is the premise that the operation is issued between operations. With
rpt and has_repeat the first frame is the repeat frame; that these rows read rpt is DEDUCED (log 13), and that the
field bit of extended RC5 is the second start bit is PRESUMED (log 23). The values that IDX, LEN and REM are left with
are the model's choice (log 20). (44_session R136; 41_symbol_encoder R91; 44_session R133; 41_symbol_encoder R88;
42_manchester R113; 42_manchester R114; 42_manchester R115; 43_carrier R129) -/
def Obligations.SendnManchesterWithToggle : Prop :=
  (∀ (s : State) (tgl auto rpt : Bool), s.opa.toNat < 2 ^ 5 → s.opc.toNat < 2 ^ 6 → s.init = true → s.carrier = false →
    let F := orRepeat .rc5 rpt (pack (cells rc5First (halfBit (params.timing .rc5)) ([true, true, (if auto then
        s.toggleRc5 else tgl)] ++ bitsMsb s.opa.toNat 5 ++ bitsMsb s.opc.toNat 6)))
    exec (.sendnRc5 tgl auto rpt) s = .next (if params.hwOk s.draws = true then sentCadence .rc5 auto F (nextFrame .rc5 F) s
      else configurationFailed s)) ∧
  (∀ (s : State) (tgl auto rpt : Bool), s.opa.toNat < 2 ^ 5 → s.opc.toNat < 2 ^ 7 → s.init = true → s.carrier = false →
    let F := orRepeat .rc5 rpt (pack (cells rc5First (halfBit (params.timing .rc5)) ([true, !(s.opc.toNat.testBit
        6), (if auto then s.toggleRc5 else tgl)] ++ bitsMsb s.opa.toNat 5 ++ bitsMsb (s.opc.toNat % 64) 6)))
    exec (.sendnRc5X tgl auto rpt) s = .next (if params.hwOk s.draws = true then sentCadence .rc5 auto F (nextFrame .rc5 F) s
      else configurationFailed s)) ∧
  (∀ (s : State) (tgl auto rpt : Bool), s.opa.toNat < 2 ^ 8 → s.opc.toNat < 2 ^ 8 → s.init = true → s.carrier = false →
    let F := orRepeat .rc6 rpt (frameRc6 (params.timing .rc6) s.opa.toNat s.opc.toNat (if auto then s.toggleRc6
        else tgl))
    exec (.sendnRc6 tgl auto rpt) s = .next (if params.hwOk s.draws = true then sentCadence .rc6 auto F (nextFrame .rc6 F) s
      else configurationFailed s))

/-- SENDN of the nine protocols without a frame rule raises UnsupportedProtocol, or emits the frame of ENC_EXT. For
every choice of the parameters in which ENC_EXT[P] is absent, SENDN of a protocol P without a frame rule raises
UnsupportedProtocol with RES0 = 0 and changes nothing else, also when INIT = 0. The nine rows, with operands within
the registry widths and INIT = 1: UnsupportedProtocol when ENC_EXT[P] is absent; else BufferTooSmall when its MINCAP
is above NSYM; else, when hw_ok is 1, the frame of the rule and then RPT_COUNT - 1 further frames (repeat frames when
has_repeat) are stored and emitted, the gap RPT_GAP_US before each further one (sentCadence), ending OK with the
toggles as before; when it is 0, INIT is cleared, FAULT set, RES0 is 0 and HwFailure raised with no output. CARRIER =
0 is the premise that the operation is issued between operations. With rpt and has_repeat the first frame is the
repeat frame; that these rows read rpt is DEDUCED (log 13), as are the limits of ENC_EXT (log 19). The values that
IDX, LEN and REM are left with are the model's choice (log 20). (44_session R136; 41_symbol_encoder R97;
41_symbol_encoder R91; 60_exceptions R141) -/
def Obligations.SendnWithoutAFrameRule : Prop :=
  (∀ (p : Params) (sel : FrameSel) (auto : Bool) (s : State), hasFrameRule sel.proto = false → p.encExt sel.proto = none →
    sendnOp p sel auto s = failedWith 4 s) ∧
  (∀ (s : State) (rpt : Bool),
    ∀ q ∈ [(Instr.sendnSamsung rpt, Proto.samsung), (.sendnJvc rpt, .jvc), (.sendnLg rpt, .lg),
        (.sendnMitsubishi rpt, .mitsubishi), (.sendnDish rpt, .dish), (.sendnAiwa rpt, .aiwa), (.sendnDenon
        rpt, .denon), (.sendnWhynter rpt, .whynter), (.sendnGeneric rpt, .generic)],
      s.opa.toNat < 2 ^ (info params q.2).addressBits.toNat → s.opc.toNat < 2 ^ (info params q.2).commandBits.toNat →
      s.init = true → s.carrier = false → exec q.1 s = .next (match params.encExt q.2 with
        | none => failedWith 4 s
        | some e =>
          let F := orRepeat q.2 rpt (e.frame s.opa.toNat s.opc.toNat)
          if params.nsym < e.minCap then failedWith 3 s
          else if params.hwOk s.draws = true then sentCadence q.2 false F (nextFrame q.2 F) s
          else configurationFailed s))

/-- SEND and SENDN raise what ENCODE raises, then NotInitialized on an uninitialised block, and emit nothing. Every
SEND and SENDN row, in every state with INIT = 0, answers the old state with RES0 = 0 (for the reserved Sony variant,
0 or as before: the model's choice, log 12) and a result code other than OK and HwFailure in ERR, and nothing else
changed: no attempt is made, no symbol stored, no pulse emitted, no toggle flipped. With operands within their widths,
SEND.NEC gives NotInitialized. The order of the checks: when the ENCODE of the same form, with the toggle bit of the
SEND and with NSYM as the capacity, raises e, the SEND or SENDN raises e, whatever INIT holds; when that ENCODE ends
OK and INIT = 0, it raises NotInitialized; each time with RES0 = 0 and nothing else changed. (44_session R134;
44_session R136; 60_exceptions R141; 60_exceptions R143) -/
def Obligations.SendRaisesBeforeAnyOutput : Prop :=
  (∀ (i : Instr) (s : State), isSend i = true → s.init = false →
    ∃ e : Byte, e ≠ 0 ∧ e ≠ 5 ∧ exec i s = .next (if i = .sendSonyVar3 then illegalWith 6 .sonyVar3 e s
      else if i = .sendnSonyVar3 then illegalWith 8 .sonyVar3 e s else failedWith e s)) ∧
  (∀ s : State, s.opa.toNat < 2 ^ 8 → s.opc.toNat < 2 ^ 8 → s.init = false →
    exec .sendNec s = .next (failedWith 1 s)) ∧
  (∀ (i j : Instr) (s : State), encodeOf s i = some j →
    ∃ t, exec j { s with opcap := BitVec.ofNat 32 params.nsym } = .next t ∧
      (t.err ≠ 0 ∨ s.init = false → exec i s = .next (failedWith (if t.err ≠ 0 then t.err else 1) s)))

/-- RSTTGL clears the toggle bit of its protocol and nothing else. RSTTGL.RC5 and RSTTGL.RC6 clear TOGGLE[RC5] and
TOGGLE[RC6] and put OK into ERR; nothing else changes, and INIT is not read. A command word with op = 7 presented
between operations does exactly this for its field proto, whatever the fields not read hold; it raises
InvalidArgument, and changes nothing else, when a reserved bit is set or proto is neither RC5 nor RC6. (R135) -/
def Obligations.RsttglClearsOneToggleBit : Prop :=
  (∀ s : State, exec .rsttglRc5 s = .next { s with toggleRc5 := false, err := 0 } ∧
    exec .rsttglRc6 s = .next { s with toggleRc6 := false, err := 0 }) ∧
  (∀ (s : State) (w : BitVec 32) (rest : List HostAction),
    s.uport = [] → s.phase = .idle → s.port = .command w :: rest → cwOp w = 7 →
    step s = .next (if cwReserved w ≠ 0 then { s with port := rest, err := 2 }
      else if cwProto w = protoCode .rc5 then { s with port := rest, toggleRc5 := false, err := 0 }
      else if cwProto w = protoCode .rc6 then { s with port := rest, toggleRc6 := false, err := 0 }
      else { s with port := rest, err := 2 }))

/-- A SEND that ends OK has the effect of ENCODE, then TRANSMIT with the catalog carrier, then the flip. For every
choice of legal parameters: when a SEND of a frame selection ends OK, so does the ENCODE of the same selection (with
the toggle bit of the SEND) on the state with x[2] = NSYM, and the TRANSMIT of RES0 symbols at the frequency and duty
of the catalog on the state the ENCODE leaves; and the state after the SEND is the state after that TRANSMIT with the
toggle flipped when auto, the operand registers being as before. This compares two runs for the same draw: the SEND
and the TRANSMIT start with the same draws and so get the same hw_ok, which is the model's choice (log 5, the
counter). (44_session R134; 30_encoding R68) -/
def Obligations.SendIsEncodeThenTransmit : Prop :=
  ∀ (p : Params) (sel : FrameSel) (auto : Bool) (s : State), ParamsLegal p → Memory.wf s.sym = true →
    (sendOp p sel auto s).err = 0 →
    let s1 := encodeOp p { sel with tgl := sendToggle sel.proto auto sel.tgl s } { s with opcap := BitVec.ofNat 32 p.nsym }
    s1.err = 0 ∧
    ∃ s2, transmitOp p { s1 with
        oplen := s1.res0
        opfreq := (p.timing sel.proto).carrierFreqHz
        opduty := (p.timing sel.proto).dutyCyclePercent.setWidth 32 } = .next s2 ∧
      s2.err = 0 ∧
      sendOp p sel auto s = { flipToggle sel.proto auto s2 with
        opcap := s.opcap, oplen := s.oplen, opfreq := s.opfreq, opduty := s.opduty }

/-- Two auto-toggle sends of the same code differ in the toggle bit only and restore it. For every choice of legal
parameters and RC5 (plain or extended) and RC6: when two SENDs with auto = 1 and the same operands both end OK, the
frame of the first is that of the toggle bit before it, the frame of the second that of its complement with everything
else equal, and the toggle bit is back at its first value; the other protocol's toggle bit is untouched. (44_session
R137; 44_session R133) -/
def Obligations.TwoAutoSendsDifferInTheToggleBit : Prop :=
  ∀ (p : Params) (sel : FrameSel) (s : State), ParamsLegal p → Memory.wf s.sym = true →
    hasToggle sel.proto = true →
    (sendOp p sel true s).err = 0 → (sendOp p sel true (sendOp p sel true s)).err = 0 →
    let s1 := sendOp p sel true s
    let s2 := sendOp p sel true s1
    let F := fun t : Bool => frame p { sel with tgl := t } (mask (waddr p sel) s.opa.toNat) (mask (wcmd p sel) s.opc.toNat)
    memRead s1.sym 0 s1.symLen.toNat = .ok (F (toggleOf sel.proto s)) ∧
    memRead s2.sym 0 s2.symLen.toNat = .ok (F (!toggleOf sel.proto s)) ∧
    toggleOf sel.proto s1 = !toggleOf sel.proto s ∧
    s2.toggleRc5 = s.toggleRc5 ∧ s2.toggleRc6 = s.toggleRc6

/-! ## The whole machine -/

/-- Every operation leaves the interrupt enable as it found it. For every operation (SEND.RC5 with a=5, c=10, tgl=1
among them) and every micro-operation, in every state and with every result: if it answers a next state, IE there is
IE before it. (R138) -/
def Obligations.InterruptEnableIsPreserved : Prop :=
  ∀ (i : Instr) (s t : State), exec i s = .next t → t.ie = s.ie

/-- No operation and no micro-operation removes an item from WAVE. For every instruction, if exec answers a next
state, WAVE before is a prefix of WAVE after. (10_state R33; 10_state R29) -/
def Obligations.WaveOnlyGrows : Prop :=
  ∀ (i : Instr) (s t : State), exec i s = .next t → s.wave <+: t.wave

/-- No operation writes an operand register, OPNAME, or what the host and the sequencer have waiting. For every
instruction, if exec answers a next state, x[0] to x[5], OPNAME, OPNAMELEN, the host's schedule and the waiting micro-
operation words are as before. (10_state R14; 10_state R15; 20_memory R37) -/
def Obligations.OperandsAndHostStateAreNotWritten : Prop :=
  ∀ (i : Instr) (s t : State), exec i s = .next t →
    (∀ r, getReg r t = getReg r s) ∧ t.opname = s.opname ∧ t.opnameLen = s.opnameLen ∧ t.port = s.port ∧
    t.uport = s.uport

/-- An operation that raises a result has emitted, stored and flipped nothing. For every operation at the command port
that answers a next state with ERR other than OK: WAVE, SYM, SYMLEN, the toggle bits, IE, IESAVE, RESINFO, CFREQ,
CDUTY and the sequencer position are as before; RES0 is as before or 0; and INIT and FAULT are as before unless the
result is HwFailure, which leaves INIT = 0 and FAULT = 1. (60_exceptions R142; 60_exceptions R143) -/
def Obligations.FailedOperationsHaveNoEffect : Prop :=
  ∀ (i : Instr) (s t : State), isCommand i = true → exec i s = .next t → t.err ≠ 0 →
    t.wave = s.wave ∧ t.sym = s.sym ∧ t.symLen = s.symLen ∧ t.toggleRc5 = s.toggleRc5 ∧ t.toggleRc6 = s.toggleRc6 ∧
    t.ie = s.ie ∧ t.iesave = s.iesave ∧ t.resinfo = s.resinfo ∧ t.cfreq = s.cfreq ∧ t.cduty = s.cduty ∧
    t.phase = s.phase ∧ t.idx = s.idx ∧ t.len = s.len ∧ t.rem = s.rem ∧ (t.res0 = s.res0 ∨ t.res0 = 0) ∧
    (if t.err = 5 then t.init = false ∧ t.fault = true else t.init = s.init ∧ t.fault = s.fault)

/-- A toggle bit changes only by RSTTGL and by a successful auto-toggle send of its protocol. For every operation at
the command port that answers a next state: TOGGLE[P] is flipped when the operation is a SEND or SENDN of P with auto
= 1 and the result is OK, is 0 when it is RSTTGL of P, and is as before in every other case. (44_session R133) -/
def Obligations.ToggleBitsChangeOnlyAsStated : Prop :=
  ∀ (i : Instr) (s t : State), isCommand i = true → exec i s = .next t →
    t.toggleRc5 = (if autoProto i = some .rc5 ∧ t.err = 0 then !s.toggleRc5
      else if i = .rsttglRc5 then false else s.toggleRc5) ∧
    t.toggleRc6 = (if autoProto i = some .rc6 ∧ t.err = 0 then !s.toggleRc6
      else if i = .rsttglRc6 then false else s.toggleRc6)

/-- An uninitialised block stays silent, and only a successful INIT ends that. From a state with INIT = 0, an
operation at the command port that answers a next state leaves WAVE as it was; and if INIT is 1 there, the operation
was INIT and ended OK. (10_state R17; 10_state R18; 70_reset R156) -/
def Obligations.OnlyInitLeavesTheUninitialisedState : Prop :=
  ∀ (i : Instr) (s t : State), isCommand i = true → exec i s = .next t → s.init = false →
    t.wave = s.wave ∧ (t.init = true → i = .init ∧ t.err = 0)

/-- Every step keeps the invariant of the machine. From every state that meets Inv (I-1 to I-5 of R33, result codes of
R139, NSYM and NAMEMAX respected, SYM in canonical form, a transmission in progress as R121 and R125 say), a step that
answers a next state gives a state that meets it. (10_state R33; 60_exceptions R139; 20_memory R35; 43_carrier R125)
-/
def Obligations.EveryStepKeepsTheInvariant : Prop :=
  ∀ s t : State, Inv s → step s = .next t → Inv t

/-- The state after reset meets the invariant. Inv holds of the state after reset. (10_state R33; 10_state R34) -/
def Obligations.ResetMeetsTheInvariant : Prop :=
  Inv State.reset
end

