-- ==== Sys2Proof/Laws/State.lean ====
section
/-! SUPPORT. What each update of the state leaves in each field, true by rfl and tagged simp, so that no proof unfolds
a record update; and the toggle bits, by cases on the protocol. -/

namespace Sys2Proof.Machine

/-! ## raise -/

@[simp] theorem raise_opa (e : ResultCode) (s : State) : (raise e s).opa = s.opa := rfl
@[simp] theorem raise_opc (e : ResultCode) (s : State) : (raise e s).opc = s.opc := rfl
@[simp] theorem raise_opcap (e : ResultCode) (s : State) : (raise e s).opcap = s.opcap := rfl
@[simp] theorem raise_oplen (e : ResultCode) (s : State) : (raise e s).oplen = s.oplen := rfl
@[simp] theorem raise_opfreq (e : ResultCode) (s : State) : (raise e s).opfreq = s.opfreq := rfl
@[simp] theorem raise_opduty (e : ResultCode) (s : State) : (raise e s).opduty = s.opduty := rfl
@[simp] theorem raise_opname (e : ResultCode) (s : State) : (raise e s).opname = s.opname := rfl
@[simp] theorem raise_opnameLen (e : ResultCode) (s : State) : (raise e s).opnameLen = s.opnameLen := rfl
@[simp] theorem raise_err (e : ResultCode) (s : State) : (raise e s).err = resultCode e := rfl
@[simp] theorem raise_res0 (e : ResultCode) (s : State) : (raise e s).res0 = s.res0 := rfl
@[simp] theorem raise_resinfo (e : ResultCode) (s : State) : (raise e s).resinfo = s.resinfo := rfl
@[simp] theorem raise_init (e : ResultCode) (s : State) : (raise e s).init = s.init := rfl
@[simp] theorem raise_fault (e : ResultCode) (s : State) : (raise e s).fault = s.fault := rfl
@[simp] theorem raise_carrier (e : ResultCode) (s : State) : (raise e s).carrier = s.carrier := rfl
@[simp] theorem raise_cfreq (e : ResultCode) (s : State) : (raise e s).cfreq = s.cfreq := rfl
@[simp] theorem raise_cduty (e : ResultCode) (s : State) : (raise e s).cduty = s.cduty := rfl
@[simp] theorem raise_phase (e : ResultCode) (s : State) : (raise e s).phase = s.phase := rfl
@[simp] theorem raise_idx (e : ResultCode) (s : State) : (raise e s).idx = s.idx := rfl
@[simp] theorem raise_len (e : ResultCode) (s : State) : (raise e s).len = s.len := rfl
@[simp] theorem raise_rem (e : ResultCode) (s : State) : (raise e s).rem = s.rem := rfl
@[simp] theorem raise_sym (e : ResultCode) (s : State) : (raise e s).sym = s.sym := rfl
@[simp] theorem raise_symLen (e : ResultCode) (s : State) : (raise e s).symLen = s.symLen := rfl
@[simp] theorem raise_toggleRc5 (e : ResultCode) (s : State) : (raise e s).toggleRc5 = s.toggleRc5 := rfl
@[simp] theorem raise_toggleRc6 (e : ResultCode) (s : State) : (raise e s).toggleRc6 = s.toggleRc6 := rfl
@[simp] theorem raise_ie (e : ResultCode) (s : State) : (raise e s).ie = s.ie := rfl
@[simp] theorem raise_iesave (e : ResultCode) (s : State) : (raise e s).iesave = s.iesave := rfl
@[simp] theorem raise_wave (e : ResultCode) (s : State) : (raise e s).wave = s.wave := rfl
@[simp] theorem raise_draws (e : ResultCode) (s : State) : (raise e s).draws = s.draws := rfl
@[simp] theorem raise_port (e : ResultCode) (s : State) : (raise e s).port = s.port := rfl
@[simp] theorem raise_uport (e : ResultCode) (s : State) : (raise e s).uport = s.uport := rfl

/-! ## raiseNoFrame -/

@[simp] theorem raiseNoFrame_opa (e : ResultCode) (s : State) : (raiseNoFrame e s).opa = s.opa := rfl
@[simp] theorem raiseNoFrame_opc (e : ResultCode) (s : State) : (raiseNoFrame e s).opc = s.opc := rfl
@[simp] theorem raiseNoFrame_opcap (e : ResultCode) (s : State) : (raiseNoFrame e s).opcap = s.opcap := rfl
@[simp] theorem raiseNoFrame_oplen (e : ResultCode) (s : State) : (raiseNoFrame e s).oplen = s.oplen := rfl
@[simp] theorem raiseNoFrame_opfreq (e : ResultCode) (s : State) : (raiseNoFrame e s).opfreq = s.opfreq := rfl
@[simp] theorem raiseNoFrame_opduty (e : ResultCode) (s : State) : (raiseNoFrame e s).opduty = s.opduty := rfl
@[simp] theorem raiseNoFrame_opname (e : ResultCode) (s : State) : (raiseNoFrame e s).opname = s.opname := rfl
@[simp] theorem raiseNoFrame_opnameLen (e : ResultCode) (s : State) :
    (raiseNoFrame e s).opnameLen = s.opnameLen := rfl
@[simp] theorem raiseNoFrame_err (e : ResultCode) (s : State) : (raiseNoFrame e s).err = resultCode e := rfl
@[simp] theorem raiseNoFrame_res0 (e : ResultCode) (s : State) : (raiseNoFrame e s).res0 = 0 := rfl
@[simp] theorem raiseNoFrame_resinfo (e : ResultCode) (s : State) : (raiseNoFrame e s).resinfo = s.resinfo := rfl
@[simp] theorem raiseNoFrame_init (e : ResultCode) (s : State) : (raiseNoFrame e s).init = s.init := rfl
@[simp] theorem raiseNoFrame_fault (e : ResultCode) (s : State) : (raiseNoFrame e s).fault = s.fault := rfl
@[simp] theorem raiseNoFrame_carrier (e : ResultCode) (s : State) : (raiseNoFrame e s).carrier = s.carrier := rfl
@[simp] theorem raiseNoFrame_cfreq (e : ResultCode) (s : State) : (raiseNoFrame e s).cfreq = s.cfreq := rfl
@[simp] theorem raiseNoFrame_cduty (e : ResultCode) (s : State) : (raiseNoFrame e s).cduty = s.cduty := rfl
@[simp] theorem raiseNoFrame_phase (e : ResultCode) (s : State) : (raiseNoFrame e s).phase = s.phase := rfl
@[simp] theorem raiseNoFrame_idx (e : ResultCode) (s : State) : (raiseNoFrame e s).idx = s.idx := rfl
@[simp] theorem raiseNoFrame_len (e : ResultCode) (s : State) : (raiseNoFrame e s).len = s.len := rfl
@[simp] theorem raiseNoFrame_rem (e : ResultCode) (s : State) : (raiseNoFrame e s).rem = s.rem := rfl
@[simp] theorem raiseNoFrame_sym (e : ResultCode) (s : State) : (raiseNoFrame e s).sym = s.sym := rfl
@[simp] theorem raiseNoFrame_symLen (e : ResultCode) (s : State) : (raiseNoFrame e s).symLen = s.symLen := rfl
@[simp] theorem raiseNoFrame_toggleRc5 (e : ResultCode) (s : State) :
    (raiseNoFrame e s).toggleRc5 = s.toggleRc5 := rfl
@[simp] theorem raiseNoFrame_toggleRc6 (e : ResultCode) (s : State) :
    (raiseNoFrame e s).toggleRc6 = s.toggleRc6 := rfl
@[simp] theorem raiseNoFrame_ie (e : ResultCode) (s : State) : (raiseNoFrame e s).ie = s.ie := rfl
@[simp] theorem raiseNoFrame_iesave (e : ResultCode) (s : State) : (raiseNoFrame e s).iesave = s.iesave := rfl
@[simp] theorem raiseNoFrame_wave (e : ResultCode) (s : State) : (raiseNoFrame e s).wave = s.wave := rfl
@[simp] theorem raiseNoFrame_draws (e : ResultCode) (s : State) : (raiseNoFrame e s).draws = s.draws := rfl
@[simp] theorem raiseNoFrame_port (e : ResultCode) (s : State) : (raiseNoFrame e s).port = s.port := rfl
@[simp] theorem raiseNoFrame_uport (e : ResultCode) (s : State) : (raiseNoFrame e s).uport = s.uport := rfl

/-! ## raiseIllegal -/

@[simp] theorem raiseIllegal_opa (p : Params) (op : BitVec 4) (k : IllegalFrame) (e : ResultCode) (s : State) :
    (raiseIllegal p op k e s).opa = s.opa := rfl
@[simp] theorem raiseIllegal_opc (p : Params) (op : BitVec 4) (k : IllegalFrame) (e : ResultCode) (s : State) :
    (raiseIllegal p op k e s).opc = s.opc := rfl
@[simp] theorem raiseIllegal_opcap (p : Params) (op : BitVec 4) (k : IllegalFrame) (e : ResultCode) (s : State) :
    (raiseIllegal p op k e s).opcap = s.opcap := rfl
@[simp] theorem raiseIllegal_oplen (p : Params) (op : BitVec 4) (k : IllegalFrame) (e : ResultCode) (s : State) :
    (raiseIllegal p op k e s).oplen = s.oplen := rfl
@[simp] theorem raiseIllegal_opfreq (p : Params) (op : BitVec 4) (k : IllegalFrame) (e : ResultCode) (s : State) :
    (raiseIllegal p op k e s).opfreq = s.opfreq := rfl
@[simp] theorem raiseIllegal_opduty (p : Params) (op : BitVec 4) (k : IllegalFrame) (e : ResultCode) (s : State) :
    (raiseIllegal p op k e s).opduty = s.opduty := rfl
@[simp] theorem raiseIllegal_opname (p : Params) (op : BitVec 4) (k : IllegalFrame) (e : ResultCode) (s : State) :
    (raiseIllegal p op k e s).opname = s.opname := rfl
@[simp] theorem raiseIllegal_opnameLen (p : Params) (op : BitVec 4) (k : IllegalFrame) (e : ResultCode) (s : State) :
    (raiseIllegal p op k e s).opnameLen = s.opnameLen := rfl
@[simp] theorem raiseIllegal_err (p : Params) (op : BitVec 4) (k : IllegalFrame) (e : ResultCode) (s : State) :
    (raiseIllegal p op k e s).err = resultCode e := rfl
@[simp] theorem raiseIllegal_res0 (p : Params) (op : BitVec 4) (k : IllegalFrame) (e : ResultCode) (s : State) :
    (raiseIllegal p op k e s).res0 = if isFrameOp op && p.illegalClearsRes0 op k then 0 else s.res0 := rfl
@[simp] theorem raiseIllegal_resinfo (p : Params) (op : BitVec 4) (k : IllegalFrame) (e : ResultCode) (s : State) :
    (raiseIllegal p op k e s).resinfo = s.resinfo := rfl
@[simp] theorem raiseIllegal_init (p : Params) (op : BitVec 4) (k : IllegalFrame) (e : ResultCode) (s : State) :
    (raiseIllegal p op k e s).init = s.init := rfl
@[simp] theorem raiseIllegal_fault (p : Params) (op : BitVec 4) (k : IllegalFrame) (e : ResultCode) (s : State) :
    (raiseIllegal p op k e s).fault = s.fault := rfl
@[simp] theorem raiseIllegal_carrier (p : Params) (op : BitVec 4) (k : IllegalFrame) (e : ResultCode) (s : State) :
    (raiseIllegal p op k e s).carrier = s.carrier := rfl
@[simp] theorem raiseIllegal_cfreq (p : Params) (op : BitVec 4) (k : IllegalFrame) (e : ResultCode) (s : State) :
    (raiseIllegal p op k e s).cfreq = s.cfreq := rfl
@[simp] theorem raiseIllegal_cduty (p : Params) (op : BitVec 4) (k : IllegalFrame) (e : ResultCode) (s : State) :
    (raiseIllegal p op k e s).cduty = s.cduty := rfl
@[simp] theorem raiseIllegal_phase (p : Params) (op : BitVec 4) (k : IllegalFrame) (e : ResultCode) (s : State) :
    (raiseIllegal p op k e s).phase = s.phase := rfl
@[simp] theorem raiseIllegal_idx (p : Params) (op : BitVec 4) (k : IllegalFrame) (e : ResultCode) (s : State) :
    (raiseIllegal p op k e s).idx = s.idx := rfl
@[simp] theorem raiseIllegal_len (p : Params) (op : BitVec 4) (k : IllegalFrame) (e : ResultCode) (s : State) :
    (raiseIllegal p op k e s).len = s.len := rfl
@[simp] theorem raiseIllegal_rem (p : Params) (op : BitVec 4) (k : IllegalFrame) (e : ResultCode) (s : State) :
    (raiseIllegal p op k e s).rem = s.rem := rfl
@[simp] theorem raiseIllegal_sym (p : Params) (op : BitVec 4) (k : IllegalFrame) (e : ResultCode) (s : State) :
    (raiseIllegal p op k e s).sym = s.sym := rfl
@[simp] theorem raiseIllegal_symLen (p : Params) (op : BitVec 4) (k : IllegalFrame) (e : ResultCode) (s : State) :
    (raiseIllegal p op k e s).symLen = s.symLen := rfl
@[simp] theorem raiseIllegal_toggleRc5 (p : Params) (op : BitVec 4) (k : IllegalFrame) (e : ResultCode) (s : State) :
    (raiseIllegal p op k e s).toggleRc5 = s.toggleRc5 := rfl
@[simp] theorem raiseIllegal_toggleRc6 (p : Params) (op : BitVec 4) (k : IllegalFrame) (e : ResultCode) (s : State) :
    (raiseIllegal p op k e s).toggleRc6 = s.toggleRc6 := rfl
@[simp] theorem raiseIllegal_ie (p : Params) (op : BitVec 4) (k : IllegalFrame) (e : ResultCode) (s : State) :
    (raiseIllegal p op k e s).ie = s.ie := rfl
@[simp] theorem raiseIllegal_iesave (p : Params) (op : BitVec 4) (k : IllegalFrame) (e : ResultCode) (s : State) :
    (raiseIllegal p op k e s).iesave = s.iesave := rfl
@[simp] theorem raiseIllegal_wave (p : Params) (op : BitVec 4) (k : IllegalFrame) (e : ResultCode) (s : State) :
    (raiseIllegal p op k e s).wave = s.wave := rfl
@[simp] theorem raiseIllegal_draws (p : Params) (op : BitVec 4) (k : IllegalFrame) (e : ResultCode) (s : State) :
    (raiseIllegal p op k e s).draws = s.draws := rfl
@[simp] theorem raiseIllegal_port (p : Params) (op : BitVec 4) (k : IllegalFrame) (e : ResultCode) (s : State) :
    (raiseIllegal p op k e s).port = s.port := rfl
@[simp] theorem raiseIllegal_uport (p : Params) (op : BitVec 4) (k : IllegalFrame) (e : ResultCode) (s : State) :
    (raiseIllegal p op k e s).uport = s.uport := rfl

/-! ## hwFailed -/

@[simp] theorem hwFailed_opa (s : State) : (hwFailed s).opa = s.opa := rfl
@[simp] theorem hwFailed_opc (s : State) : (hwFailed s).opc = s.opc := rfl
@[simp] theorem hwFailed_opcap (s : State) : (hwFailed s).opcap = s.opcap := rfl
@[simp] theorem hwFailed_oplen (s : State) : (hwFailed s).oplen = s.oplen := rfl
@[simp] theorem hwFailed_opfreq (s : State) : (hwFailed s).opfreq = s.opfreq := rfl
@[simp] theorem hwFailed_opduty (s : State) : (hwFailed s).opduty = s.opduty := rfl
@[simp] theorem hwFailed_opname (s : State) : (hwFailed s).opname = s.opname := rfl
@[simp] theorem hwFailed_opnameLen (s : State) : (hwFailed s).opnameLen = s.opnameLen := rfl
@[simp] theorem hwFailed_err (s : State) : (hwFailed s).err = s.err := rfl
@[simp] theorem hwFailed_res0 (s : State) : (hwFailed s).res0 = s.res0 := rfl
@[simp] theorem hwFailed_resinfo (s : State) : (hwFailed s).resinfo = s.resinfo := rfl
@[simp] theorem hwFailed_init (s : State) : (hwFailed s).init = false := rfl
@[simp] theorem hwFailed_fault (s : State) : (hwFailed s).fault = true := rfl
@[simp] theorem hwFailed_carrier (s : State) : (hwFailed s).carrier = s.carrier := rfl
@[simp] theorem hwFailed_cfreq (s : State) : (hwFailed s).cfreq = s.cfreq := rfl
@[simp] theorem hwFailed_cduty (s : State) : (hwFailed s).cduty = s.cduty := rfl
@[simp] theorem hwFailed_phase (s : State) : (hwFailed s).phase = s.phase := rfl
@[simp] theorem hwFailed_idx (s : State) : (hwFailed s).idx = s.idx := rfl
@[simp] theorem hwFailed_len (s : State) : (hwFailed s).len = s.len := rfl
@[simp] theorem hwFailed_rem (s : State) : (hwFailed s).rem = s.rem := rfl
@[simp] theorem hwFailed_sym (s : State) : (hwFailed s).sym = s.sym := rfl
@[simp] theorem hwFailed_symLen (s : State) : (hwFailed s).symLen = s.symLen := rfl
@[simp] theorem hwFailed_toggleRc5 (s : State) : (hwFailed s).toggleRc5 = s.toggleRc5 := rfl
@[simp] theorem hwFailed_toggleRc6 (s : State) : (hwFailed s).toggleRc6 = s.toggleRc6 := rfl
@[simp] theorem hwFailed_ie (s : State) : (hwFailed s).ie = s.ie := rfl
@[simp] theorem hwFailed_iesave (s : State) : (hwFailed s).iesave = s.iesave := rfl
@[simp] theorem hwFailed_wave (s : State) : (hwFailed s).wave = s.wave := rfl
@[simp] theorem hwFailed_draws (s : State) : (hwFailed s).draws = s.draws := rfl
@[simp] theorem hwFailed_port (s : State) : (hwFailed s).port = s.port := rfl
@[simp] theorem hwFailed_uport (s : State) : (hwFailed s).uport = s.uport := rfl

/-! ## attempt -/

@[simp] theorem attempt_opa (s : State) : (attempt s).opa = s.opa := rfl
@[simp] theorem attempt_opc (s : State) : (attempt s).opc = s.opc := rfl
@[simp] theorem attempt_opcap (s : State) : (attempt s).opcap = s.opcap := rfl
@[simp] theorem attempt_oplen (s : State) : (attempt s).oplen = s.oplen := rfl
@[simp] theorem attempt_opfreq (s : State) : (attempt s).opfreq = s.opfreq := rfl
@[simp] theorem attempt_opduty (s : State) : (attempt s).opduty = s.opduty := rfl
@[simp] theorem attempt_opname (s : State) : (attempt s).opname = s.opname := rfl
@[simp] theorem attempt_opnameLen (s : State) : (attempt s).opnameLen = s.opnameLen := rfl
@[simp] theorem attempt_err (s : State) : (attempt s).err = s.err := rfl
@[simp] theorem attempt_res0 (s : State) : (attempt s).res0 = s.res0 := rfl
@[simp] theorem attempt_resinfo (s : State) : (attempt s).resinfo = s.resinfo := rfl
@[simp] theorem attempt_init (s : State) : (attempt s).init = s.init := rfl
@[simp] theorem attempt_fault (s : State) : (attempt s).fault = s.fault := rfl
@[simp] theorem attempt_carrier (s : State) : (attempt s).carrier = s.carrier := rfl
@[simp] theorem attempt_cfreq (s : State) : (attempt s).cfreq = s.cfreq := rfl
@[simp] theorem attempt_cduty (s : State) : (attempt s).cduty = s.cduty := rfl
@[simp] theorem attempt_phase (s : State) : (attempt s).phase = s.phase := rfl
@[simp] theorem attempt_idx (s : State) : (attempt s).idx = s.idx := rfl
@[simp] theorem attempt_len (s : State) : (attempt s).len = s.len := rfl
@[simp] theorem attempt_rem (s : State) : (attempt s).rem = s.rem := rfl
@[simp] theorem attempt_sym (s : State) : (attempt s).sym = s.sym := rfl
@[simp] theorem attempt_symLen (s : State) : (attempt s).symLen = s.symLen := rfl
@[simp] theorem attempt_toggleRc5 (s : State) : (attempt s).toggleRc5 = s.toggleRc5 := rfl
@[simp] theorem attempt_toggleRc6 (s : State) : (attempt s).toggleRc6 = s.toggleRc6 := rfl
@[simp] theorem attempt_ie (s : State) : (attempt s).ie = s.ie := rfl
@[simp] theorem attempt_iesave (s : State) : (attempt s).iesave = s.iesave := rfl
@[simp] theorem attempt_wave (s : State) : (attempt s).wave = s.wave := rfl
@[simp] theorem attempt_draws (s : State) : (attempt s).draws = s.draws + 1 := rfl
@[simp] theorem attempt_port (s : State) : (attempt s).port = s.port := rfl
@[simp] theorem attempt_uport (s : State) : (attempt s).uport = s.uport := rfl

/-! ## configure -/

@[simp] theorem configure_opa (f : Word) (d : Duty) (s : State) : (configure f d s).opa = s.opa := rfl
@[simp] theorem configure_opc (f : Word) (d : Duty) (s : State) : (configure f d s).opc = s.opc := rfl
@[simp] theorem configure_opcap (f : Word) (d : Duty) (s : State) : (configure f d s).opcap = s.opcap := rfl
@[simp] theorem configure_oplen (f : Word) (d : Duty) (s : State) : (configure f d s).oplen = s.oplen := rfl
@[simp] theorem configure_opfreq (f : Word) (d : Duty) (s : State) : (configure f d s).opfreq = s.opfreq := rfl
@[simp] theorem configure_opduty (f : Word) (d : Duty) (s : State) : (configure f d s).opduty = s.opduty := rfl
@[simp] theorem configure_opname (f : Word) (d : Duty) (s : State) : (configure f d s).opname = s.opname := rfl
@[simp] theorem configure_opnameLen (f : Word) (d : Duty) (s : State) :
    (configure f d s).opnameLen = s.opnameLen := rfl
@[simp] theorem configure_err (f : Word) (d : Duty) (s : State) : (configure f d s).err = s.err := rfl
@[simp] theorem configure_res0 (f : Word) (d : Duty) (s : State) : (configure f d s).res0 = s.res0 := rfl
@[simp] theorem configure_resinfo (f : Word) (d : Duty) (s : State) : (configure f d s).resinfo = s.resinfo := rfl
@[simp] theorem configure_init (f : Word) (d : Duty) (s : State) : (configure f d s).init = s.init := rfl
@[simp] theorem configure_fault (f : Word) (d : Duty) (s : State) : (configure f d s).fault = s.fault := rfl
@[simp] theorem configure_carrier (f : Word) (d : Duty) (s : State) : (configure f d s).carrier = s.carrier := rfl
@[simp] theorem configure_cfreq (f : Word) (d : Duty) (s : State) : (configure f d s).cfreq = f := rfl
@[simp] theorem configure_cduty (f : Word) (d : Duty) (s : State) : (configure f d s).cduty = d := rfl
@[simp] theorem configure_phase (f : Word) (d : Duty) (s : State) : (configure f d s).phase = s.phase := rfl
@[simp] theorem configure_idx (f : Word) (d : Duty) (s : State) : (configure f d s).idx = s.idx := rfl
@[simp] theorem configure_len (f : Word) (d : Duty) (s : State) : (configure f d s).len = s.len := rfl
@[simp] theorem configure_rem (f : Word) (d : Duty) (s : State) : (configure f d s).rem = s.rem := rfl
@[simp] theorem configure_sym (f : Word) (d : Duty) (s : State) : (configure f d s).sym = s.sym := rfl
@[simp] theorem configure_symLen (f : Word) (d : Duty) (s : State) : (configure f d s).symLen = s.symLen := rfl
@[simp] theorem configure_toggleRc5 (f : Word) (d : Duty) (s : State) :
    (configure f d s).toggleRc5 = s.toggleRc5 := rfl
@[simp] theorem configure_toggleRc6 (f : Word) (d : Duty) (s : State) :
    (configure f d s).toggleRc6 = s.toggleRc6 := rfl
@[simp] theorem configure_ie (f : Word) (d : Duty) (s : State) : (configure f d s).ie = s.ie := rfl
@[simp] theorem configure_iesave (f : Word) (d : Duty) (s : State) : (configure f d s).iesave = s.iesave := rfl
@[simp] theorem configure_wave (f : Word) (d : Duty) (s : State) : (configure f d s).wave = s.wave := rfl
@[simp] theorem configure_draws (f : Word) (d : Duty) (s : State) : (configure f d s).draws = s.draws := rfl
@[simp] theorem configure_port (f : Word) (d : Duty) (s : State) : (configure f d s).port = s.port := rfl
@[simp] theorem configure_uport (f : Word) (d : Duty) (s : State) : (configure f d s).uport = s.uport := rfl

/-! ## storeFrame -/

@[simp] theorem storeFrame_opa (F : List Symbol) (s : State) : (storeFrame F s).opa = s.opa := rfl
@[simp] theorem storeFrame_opc (F : List Symbol) (s : State) : (storeFrame F s).opc = s.opc := rfl
@[simp] theorem storeFrame_opcap (F : List Symbol) (s : State) : (storeFrame F s).opcap = s.opcap := rfl
@[simp] theorem storeFrame_oplen (F : List Symbol) (s : State) : (storeFrame F s).oplen = s.oplen := rfl
@[simp] theorem storeFrame_opfreq (F : List Symbol) (s : State) : (storeFrame F s).opfreq = s.opfreq := rfl
@[simp] theorem storeFrame_opduty (F : List Symbol) (s : State) : (storeFrame F s).opduty = s.opduty := rfl
@[simp] theorem storeFrame_opname (F : List Symbol) (s : State) : (storeFrame F s).opname = s.opname := rfl
@[simp] theorem storeFrame_opnameLen (F : List Symbol) (s : State) : (storeFrame F s).opnameLen = s.opnameLen := rfl
@[simp] theorem storeFrame_err (F : List Symbol) (s : State) : (storeFrame F s).err = s.err := rfl
@[simp] theorem storeFrame_res0 (F : List Symbol) (s : State) :
    (storeFrame F s).res0 = BitVec.ofNat 32 F.length := rfl
@[simp] theorem storeFrame_resinfo (F : List Symbol) (s : State) : (storeFrame F s).resinfo = s.resinfo := rfl
@[simp] theorem storeFrame_init (F : List Symbol) (s : State) : (storeFrame F s).init = s.init := rfl
@[simp] theorem storeFrame_fault (F : List Symbol) (s : State) : (storeFrame F s).fault = s.fault := rfl
@[simp] theorem storeFrame_carrier (F : List Symbol) (s : State) : (storeFrame F s).carrier = s.carrier := rfl
@[simp] theorem storeFrame_cfreq (F : List Symbol) (s : State) : (storeFrame F s).cfreq = s.cfreq := rfl
@[simp] theorem storeFrame_cduty (F : List Symbol) (s : State) : (storeFrame F s).cduty = s.cduty := rfl
@[simp] theorem storeFrame_phase (F : List Symbol) (s : State) : (storeFrame F s).phase = s.phase := rfl
@[simp] theorem storeFrame_idx (F : List Symbol) (s : State) : (storeFrame F s).idx = s.idx := rfl
@[simp] theorem storeFrame_len (F : List Symbol) (s : State) : (storeFrame F s).len = s.len := rfl
@[simp] theorem storeFrame_rem (F : List Symbol) (s : State) : (storeFrame F s).rem = s.rem := rfl
@[simp] theorem storeFrame_sym (F : List Symbol) (s : State) : (storeFrame F s).sym = memWrite s.sym 0 F := rfl
@[simp] theorem storeFrame_symLen (F : List Symbol) (s : State) :
    (storeFrame F s).symLen = BitVec.ofNat 32 F.length := rfl
@[simp] theorem storeFrame_toggleRc5 (F : List Symbol) (s : State) : (storeFrame F s).toggleRc5 = s.toggleRc5 := rfl
@[simp] theorem storeFrame_toggleRc6 (F : List Symbol) (s : State) : (storeFrame F s).toggleRc6 = s.toggleRc6 := rfl
@[simp] theorem storeFrame_ie (F : List Symbol) (s : State) : (storeFrame F s).ie = s.ie := rfl
@[simp] theorem storeFrame_iesave (F : List Symbol) (s : State) : (storeFrame F s).iesave = s.iesave := rfl
@[simp] theorem storeFrame_wave (F : List Symbol) (s : State) : (storeFrame F s).wave = s.wave := rfl
@[simp] theorem storeFrame_draws (F : List Symbol) (s : State) : (storeFrame F s).draws = s.draws := rfl
@[simp] theorem storeFrame_port (F : List Symbol) (s : State) : (storeFrame F s).port = s.port := rfl
@[simp] theorem storeFrame_uport (F : List Symbol) (s : State) : (storeFrame F s).uport = s.uport := rfl

/-! ## setName -/

@[simp] theorem setName_opa (bytes : List Byte) (s : State) : (setName bytes s).opa = s.opa := rfl
@[simp] theorem setName_opc (bytes : List Byte) (s : State) : (setName bytes s).opc = s.opc := rfl
@[simp] theorem setName_opcap (bytes : List Byte) (s : State) : (setName bytes s).opcap = s.opcap := rfl
@[simp] theorem setName_oplen (bytes : List Byte) (s : State) : (setName bytes s).oplen = s.oplen := rfl
@[simp] theorem setName_opfreq (bytes : List Byte) (s : State) : (setName bytes s).opfreq = s.opfreq := rfl
@[simp] theorem setName_opduty (bytes : List Byte) (s : State) : (setName bytes s).opduty = s.opduty := rfl
@[simp] theorem setName_opname (bytes : List Byte) (s : State) :
    (setName bytes s).opname = bytes ++ s.opname.drop bytes.length := rfl
@[simp] theorem setName_opnameLen (bytes : List Byte) (s : State) :
    (setName bytes s).opnameLen = BitVec.ofNat 32 bytes.length := rfl
@[simp] theorem setName_err (bytes : List Byte) (s : State) : (setName bytes s).err = s.err := rfl
@[simp] theorem setName_res0 (bytes : List Byte) (s : State) : (setName bytes s).res0 = s.res0 := rfl
@[simp] theorem setName_resinfo (bytes : List Byte) (s : State) : (setName bytes s).resinfo = s.resinfo := rfl
@[simp] theorem setName_init (bytes : List Byte) (s : State) : (setName bytes s).init = s.init := rfl
@[simp] theorem setName_fault (bytes : List Byte) (s : State) : (setName bytes s).fault = s.fault := rfl
@[simp] theorem setName_carrier (bytes : List Byte) (s : State) : (setName bytes s).carrier = s.carrier := rfl
@[simp] theorem setName_cfreq (bytes : List Byte) (s : State) : (setName bytes s).cfreq = s.cfreq := rfl
@[simp] theorem setName_cduty (bytes : List Byte) (s : State) : (setName bytes s).cduty = s.cduty := rfl
@[simp] theorem setName_phase (bytes : List Byte) (s : State) : (setName bytes s).phase = s.phase := rfl
@[simp] theorem setName_idx (bytes : List Byte) (s : State) : (setName bytes s).idx = s.idx := rfl
@[simp] theorem setName_len (bytes : List Byte) (s : State) : (setName bytes s).len = s.len := rfl
@[simp] theorem setName_rem (bytes : List Byte) (s : State) : (setName bytes s).rem = s.rem := rfl
@[simp] theorem setName_sym (bytes : List Byte) (s : State) : (setName bytes s).sym = s.sym := rfl
@[simp] theorem setName_symLen (bytes : List Byte) (s : State) : (setName bytes s).symLen = s.symLen := rfl
@[simp] theorem setName_toggleRc5 (bytes : List Byte) (s : State) : (setName bytes s).toggleRc5 = s.toggleRc5 := rfl
@[simp] theorem setName_toggleRc6 (bytes : List Byte) (s : State) : (setName bytes s).toggleRc6 = s.toggleRc6 := rfl
@[simp] theorem setName_ie (bytes : List Byte) (s : State) : (setName bytes s).ie = s.ie := rfl
@[simp] theorem setName_iesave (bytes : List Byte) (s : State) : (setName bytes s).iesave = s.iesave := rfl
@[simp] theorem setName_wave (bytes : List Byte) (s : State) : (setName bytes s).wave = s.wave := rfl
@[simp] theorem setName_draws (bytes : List Byte) (s : State) : (setName bytes s).draws = s.draws := rfl
@[simp] theorem setName_port (bytes : List Byte) (s : State) : (setName bytes s).port = s.port := rfl
@[simp] theorem setName_uport (bytes : List Byte) (s : State) : (setName bytes s).uport = s.uport := rfl

/-! ## critEnter -/

@[simp] theorem critEnter_opa (s : State) : (critEnter s).opa = s.opa := rfl
@[simp] theorem critEnter_opc (s : State) : (critEnter s).opc = s.opc := rfl
@[simp] theorem critEnter_opcap (s : State) : (critEnter s).opcap = s.opcap := rfl
@[simp] theorem critEnter_oplen (s : State) : (critEnter s).oplen = s.oplen := rfl
@[simp] theorem critEnter_opfreq (s : State) : (critEnter s).opfreq = s.opfreq := rfl
@[simp] theorem critEnter_opduty (s : State) : (critEnter s).opduty = s.opduty := rfl
@[simp] theorem critEnter_opname (s : State) : (critEnter s).opname = s.opname := rfl
@[simp] theorem critEnter_opnameLen (s : State) : (critEnter s).opnameLen = s.opnameLen := rfl
@[simp] theorem critEnter_err (s : State) : (critEnter s).err = s.err := rfl
@[simp] theorem critEnter_res0 (s : State) : (critEnter s).res0 = s.res0 := rfl
@[simp] theorem critEnter_resinfo (s : State) : (critEnter s).resinfo = s.resinfo := rfl
@[simp] theorem critEnter_init (s : State) : (critEnter s).init = s.init := rfl
@[simp] theorem critEnter_fault (s : State) : (critEnter s).fault = s.fault := rfl
@[simp] theorem critEnter_carrier (s : State) : (critEnter s).carrier = s.carrier := rfl
@[simp] theorem critEnter_cfreq (s : State) : (critEnter s).cfreq = s.cfreq := rfl
@[simp] theorem critEnter_cduty (s : State) : (critEnter s).cduty = s.cduty := rfl
@[simp] theorem critEnter_phase (s : State) : (critEnter s).phase = s.phase := rfl
@[simp] theorem critEnter_idx (s : State) : (critEnter s).idx = s.idx := rfl
@[simp] theorem critEnter_len (s : State) : (critEnter s).len = s.len := rfl
@[simp] theorem critEnter_rem (s : State) : (critEnter s).rem = s.rem := rfl
@[simp] theorem critEnter_sym (s : State) : (critEnter s).sym = s.sym := rfl
@[simp] theorem critEnter_symLen (s : State) : (critEnter s).symLen = s.symLen := rfl
@[simp] theorem critEnter_toggleRc5 (s : State) : (critEnter s).toggleRc5 = s.toggleRc5 := rfl
@[simp] theorem critEnter_toggleRc6 (s : State) : (critEnter s).toggleRc6 = s.toggleRc6 := rfl
@[simp] theorem critEnter_ie (s : State) : (critEnter s).ie = false := rfl
@[simp] theorem critEnter_iesave (s : State) : (critEnter s).iesave = s.ie := rfl
@[simp] theorem critEnter_wave (s : State) : (critEnter s).wave = s.wave ++ [.idle] := rfl
@[simp] theorem critEnter_draws (s : State) : (critEnter s).draws = s.draws := rfl
@[simp] theorem critEnter_port (s : State) : (critEnter s).port = s.port := rfl
@[simp] theorem critEnter_uport (s : State) : (critEnter s).uport = s.uport := rfl

/-! ## critExit -/

@[simp] theorem critExit_opa (s : State) : (critExit s).opa = s.opa := rfl
@[simp] theorem critExit_opc (s : State) : (critExit s).opc = s.opc := rfl
@[simp] theorem critExit_opcap (s : State) : (critExit s).opcap = s.opcap := rfl
@[simp] theorem critExit_oplen (s : State) : (critExit s).oplen = s.oplen := rfl
@[simp] theorem critExit_opfreq (s : State) : (critExit s).opfreq = s.opfreq := rfl
@[simp] theorem critExit_opduty (s : State) : (critExit s).opduty = s.opduty := rfl
@[simp] theorem critExit_opname (s : State) : (critExit s).opname = s.opname := rfl
@[simp] theorem critExit_opnameLen (s : State) : (critExit s).opnameLen = s.opnameLen := rfl
@[simp] theorem critExit_err (s : State) : (critExit s).err = s.err := rfl
@[simp] theorem critExit_res0 (s : State) : (critExit s).res0 = s.res0 := rfl
@[simp] theorem critExit_resinfo (s : State) : (critExit s).resinfo = s.resinfo := rfl
@[simp] theorem critExit_init (s : State) : (critExit s).init = s.init := rfl
@[simp] theorem critExit_fault (s : State) : (critExit s).fault = s.fault := rfl
@[simp] theorem critExit_carrier (s : State) : (critExit s).carrier = s.carrier := rfl
@[simp] theorem critExit_cfreq (s : State) : (critExit s).cfreq = s.cfreq := rfl
@[simp] theorem critExit_cduty (s : State) : (critExit s).cduty = s.cduty := rfl
@[simp] theorem critExit_phase (s : State) : (critExit s).phase = s.phase := rfl
@[simp] theorem critExit_idx (s : State) : (critExit s).idx = s.idx := rfl
@[simp] theorem critExit_len (s : State) : (critExit s).len = s.len := rfl
@[simp] theorem critExit_rem (s : State) : (critExit s).rem = s.rem := rfl
@[simp] theorem critExit_sym (s : State) : (critExit s).sym = s.sym := rfl
@[simp] theorem critExit_symLen (s : State) : (critExit s).symLen = s.symLen := rfl
@[simp] theorem critExit_toggleRc5 (s : State) : (critExit s).toggleRc5 = s.toggleRc5 := rfl
@[simp] theorem critExit_toggleRc6 (s : State) : (critExit s).toggleRc6 = s.toggleRc6 := rfl
@[simp] theorem critExit_ie (s : State) : (critExit s).ie = s.iesave := rfl
@[simp] theorem critExit_iesave (s : State) : (critExit s).iesave = s.iesave := rfl
@[simp] theorem critExit_wave (s : State) : (critExit s).wave = s.wave := rfl
@[simp] theorem critExit_draws (s : State) : (critExit s).draws = s.draws := rfl
@[simp] theorem critExit_port (s : State) : (critExit s).port = s.port := rfl
@[simp] theorem critExit_uport (s : State) : (critExit s).uport = s.uport := rfl

/-! ## cen -/

@[simp] theorem cen_opa (d : Duty) (s : State) : (cen d s).opa = s.opa := rfl
@[simp] theorem cen_opc (d : Duty) (s : State) : (cen d s).opc = s.opc := rfl
@[simp] theorem cen_opcap (d : Duty) (s : State) : (cen d s).opcap = s.opcap := rfl
@[simp] theorem cen_oplen (d : Duty) (s : State) : (cen d s).oplen = s.oplen := rfl
@[simp] theorem cen_opfreq (d : Duty) (s : State) : (cen d s).opfreq = s.opfreq := rfl
@[simp] theorem cen_opduty (d : Duty) (s : State) : (cen d s).opduty = s.opduty := rfl
@[simp] theorem cen_opname (d : Duty) (s : State) : (cen d s).opname = s.opname := rfl
@[simp] theorem cen_opnameLen (d : Duty) (s : State) : (cen d s).opnameLen = s.opnameLen := rfl
@[simp] theorem cen_err (d : Duty) (s : State) : (cen d s).err = s.err := rfl
@[simp] theorem cen_res0 (d : Duty) (s : State) : (cen d s).res0 = s.res0 := rfl
@[simp] theorem cen_resinfo (d : Duty) (s : State) : (cen d s).resinfo = s.resinfo := rfl
@[simp] theorem cen_init (d : Duty) (s : State) : (cen d s).init = s.init := rfl
@[simp] theorem cen_fault (d : Duty) (s : State) : (cen d s).fault = s.fault := rfl
@[simp] theorem cen_carrier (d : Duty) (s : State) : (cen d s).carrier = true := rfl
@[simp] theorem cen_cfreq (d : Duty) (s : State) : (cen d s).cfreq = s.cfreq := rfl
@[simp] theorem cen_cduty (d : Duty) (s : State) : (cen d s).cduty = s.cduty := rfl
@[simp] theorem cen_phase (d : Duty) (s : State) : (cen d s).phase = s.phase := rfl
@[simp] theorem cen_idx (d : Duty) (s : State) : (cen d s).idx = s.idx := rfl
@[simp] theorem cen_len (d : Duty) (s : State) : (cen d s).len = s.len := rfl
@[simp] theorem cen_rem (d : Duty) (s : State) : (cen d s).rem = s.rem := rfl
@[simp] theorem cen_sym (d : Duty) (s : State) : (cen d s).sym = s.sym := rfl
@[simp] theorem cen_symLen (d : Duty) (s : State) : (cen d s).symLen = s.symLen := rfl
@[simp] theorem cen_toggleRc5 (d : Duty) (s : State) : (cen d s).toggleRc5 = s.toggleRc5 := rfl
@[simp] theorem cen_toggleRc6 (d : Duty) (s : State) : (cen d s).toggleRc6 = s.toggleRc6 := rfl
@[simp] theorem cen_ie (d : Duty) (s : State) : (cen d s).ie = s.ie := rfl
@[simp] theorem cen_iesave (d : Duty) (s : State) : (cen d s).iesave = s.iesave := rfl
@[simp] theorem cen_wave (d : Duty) (s : State) : (cen d s).wave = s.wave := rfl
@[simp] theorem cen_draws (d : Duty) (s : State) : (cen d s).draws = s.draws := rfl
@[simp] theorem cen_port (d : Duty) (s : State) : (cen d s).port = s.port := rfl
@[simp] theorem cen_uport (d : Duty) (s : State) : (cen d s).uport = s.uport := rfl

/-! ## cdis -/

@[simp] theorem cdis_opa (s : State) : (cdis s).opa = s.opa := rfl
@[simp] theorem cdis_opc (s : State) : (cdis s).opc = s.opc := rfl
@[simp] theorem cdis_opcap (s : State) : (cdis s).opcap = s.opcap := rfl
@[simp] theorem cdis_oplen (s : State) : (cdis s).oplen = s.oplen := rfl
@[simp] theorem cdis_opfreq (s : State) : (cdis s).opfreq = s.opfreq := rfl
@[simp] theorem cdis_opduty (s : State) : (cdis s).opduty = s.opduty := rfl
@[simp] theorem cdis_opname (s : State) : (cdis s).opname = s.opname := rfl
@[simp] theorem cdis_opnameLen (s : State) : (cdis s).opnameLen = s.opnameLen := rfl
@[simp] theorem cdis_err (s : State) : (cdis s).err = s.err := rfl
@[simp] theorem cdis_res0 (s : State) : (cdis s).res0 = s.res0 := rfl
@[simp] theorem cdis_resinfo (s : State) : (cdis s).resinfo = s.resinfo := rfl
@[simp] theorem cdis_init (s : State) : (cdis s).init = s.init := rfl
@[simp] theorem cdis_fault (s : State) : (cdis s).fault = s.fault := rfl
@[simp] theorem cdis_carrier (s : State) : (cdis s).carrier = false := rfl
@[simp] theorem cdis_cfreq (s : State) : (cdis s).cfreq = s.cfreq := rfl
@[simp] theorem cdis_cduty (s : State) : (cdis s).cduty = s.cduty := rfl
@[simp] theorem cdis_phase (s : State) : (cdis s).phase = s.phase := rfl
@[simp] theorem cdis_idx (s : State) : (cdis s).idx = s.idx := rfl
@[simp] theorem cdis_len (s : State) : (cdis s).len = s.len := rfl
@[simp] theorem cdis_rem (s : State) : (cdis s).rem = s.rem := rfl
@[simp] theorem cdis_sym (s : State) : (cdis s).sym = s.sym := rfl
@[simp] theorem cdis_symLen (s : State) : (cdis s).symLen = s.symLen := rfl
@[simp] theorem cdis_toggleRc5 (s : State) : (cdis s).toggleRc5 = s.toggleRc5 := rfl
@[simp] theorem cdis_toggleRc6 (s : State) : (cdis s).toggleRc6 = s.toggleRc6 := rfl
@[simp] theorem cdis_ie (s : State) : (cdis s).ie = s.ie := rfl
@[simp] theorem cdis_iesave (s : State) : (cdis s).iesave = s.iesave := rfl
@[simp] theorem cdis_wave (s : State) : (cdis s).wave = s.wave := rfl
@[simp] theorem cdis_draws (s : State) : (cdis s).draws = s.draws := rfl
@[simp] theorem cdis_port (s : State) : (cdis s).port = s.port := rfl
@[simp] theorem cdis_uport (s : State) : (cdis s).uport = s.uport := rfl

/-! ## dly -/

@[simp] theorem dly_opa (n : Word) (s : State) : (dly n s).opa = s.opa := rfl
@[simp] theorem dly_opc (n : Word) (s : State) : (dly n s).opc = s.opc := rfl
@[simp] theorem dly_opcap (n : Word) (s : State) : (dly n s).opcap = s.opcap := rfl
@[simp] theorem dly_oplen (n : Word) (s : State) : (dly n s).oplen = s.oplen := rfl
@[simp] theorem dly_opfreq (n : Word) (s : State) : (dly n s).opfreq = s.opfreq := rfl
@[simp] theorem dly_opduty (n : Word) (s : State) : (dly n s).opduty = s.opduty := rfl
@[simp] theorem dly_opname (n : Word) (s : State) : (dly n s).opname = s.opname := rfl
@[simp] theorem dly_opnameLen (n : Word) (s : State) : (dly n s).opnameLen = s.opnameLen := rfl
@[simp] theorem dly_err (n : Word) (s : State) : (dly n s).err = s.err := rfl
@[simp] theorem dly_res0 (n : Word) (s : State) : (dly n s).res0 = s.res0 := rfl
@[simp] theorem dly_resinfo (n : Word) (s : State) : (dly n s).resinfo = s.resinfo := rfl
@[simp] theorem dly_init (n : Word) (s : State) : (dly n s).init = s.init := rfl
@[simp] theorem dly_fault (n : Word) (s : State) : (dly n s).fault = s.fault := rfl
@[simp] theorem dly_carrier (n : Word) (s : State) : (dly n s).carrier = s.carrier := rfl
@[simp] theorem dly_cfreq (n : Word) (s : State) : (dly n s).cfreq = s.cfreq := rfl
@[simp] theorem dly_cduty (n : Word) (s : State) : (dly n s).cduty = s.cduty := rfl
@[simp] theorem dly_phase (n : Word) (s : State) : (dly n s).phase = s.phase := rfl
@[simp] theorem dly_idx (n : Word) (s : State) : (dly n s).idx = s.idx := rfl
@[simp] theorem dly_len (n : Word) (s : State) : (dly n s).len = s.len := rfl
@[simp] theorem dly_rem (n : Word) (s : State) : (dly n s).rem = s.rem := rfl
@[simp] theorem dly_sym (n : Word) (s : State) : (dly n s).sym = s.sym := rfl
@[simp] theorem dly_symLen (n : Word) (s : State) : (dly n s).symLen = s.symLen := rfl
@[simp] theorem dly_toggleRc5 (n : Word) (s : State) : (dly n s).toggleRc5 = s.toggleRc5 := rfl
@[simp] theorem dly_toggleRc6 (n : Word) (s : State) : (dly n s).toggleRc6 = s.toggleRc6 := rfl
@[simp] theorem dly_ie (n : Word) (s : State) : (dly n s).ie = s.ie := rfl
@[simp] theorem dly_iesave (n : Word) (s : State) : (dly n s).iesave = s.iesave := rfl
@[simp] theorem dly_wave (n : Word) (s : State) : (dly n s).wave = s.wave ++ dlyItems n s := rfl
@[simp] theorem dly_draws (n : Word) (s : State) : (dly n s).draws = s.draws := rfl
@[simp] theorem dly_port (n : Word) (s : State) : (dly n s).port = s.port := rfl
@[simp] theorem dly_uport (n : Word) (s : State) : (dly n s).uport = s.uport := rfl

/-! ## startPhase -/

@[simp] theorem startPhase_opa (ph : Phase) (i : Nat) (n : Word) (s : State) :
    (startPhase ph i n s).opa = s.opa := rfl
@[simp] theorem startPhase_opc (ph : Phase) (i : Nat) (n : Word) (s : State) :
    (startPhase ph i n s).opc = s.opc := rfl
@[simp] theorem startPhase_opcap (ph : Phase) (i : Nat) (n : Word) (s : State) :
    (startPhase ph i n s).opcap = s.opcap := rfl
@[simp] theorem startPhase_oplen (ph : Phase) (i : Nat) (n : Word) (s : State) :
    (startPhase ph i n s).oplen = s.oplen := rfl
@[simp] theorem startPhase_opfreq (ph : Phase) (i : Nat) (n : Word) (s : State) :
    (startPhase ph i n s).opfreq = s.opfreq := rfl
@[simp] theorem startPhase_opduty (ph : Phase) (i : Nat) (n : Word) (s : State) :
    (startPhase ph i n s).opduty = s.opduty := rfl
@[simp] theorem startPhase_opname (ph : Phase) (i : Nat) (n : Word) (s : State) :
    (startPhase ph i n s).opname = s.opname := rfl
@[simp] theorem startPhase_opnameLen (ph : Phase) (i : Nat) (n : Word) (s : State) :
    (startPhase ph i n s).opnameLen = s.opnameLen := rfl
@[simp] theorem startPhase_err (ph : Phase) (i : Nat) (n : Word) (s : State) :
    (startPhase ph i n s).err = s.err := rfl
@[simp] theorem startPhase_res0 (ph : Phase) (i : Nat) (n : Word) (s : State) :
    (startPhase ph i n s).res0 = s.res0 := rfl
@[simp] theorem startPhase_resinfo (ph : Phase) (i : Nat) (n : Word) (s : State) :
    (startPhase ph i n s).resinfo = s.resinfo := rfl
@[simp] theorem startPhase_init (ph : Phase) (i : Nat) (n : Word) (s : State) :
    (startPhase ph i n s).init = s.init := rfl
@[simp] theorem startPhase_fault (ph : Phase) (i : Nat) (n : Word) (s : State) :
    (startPhase ph i n s).fault = s.fault := rfl
@[simp] theorem startPhase_carrier (ph : Phase) (i : Nat) (n : Word) (s : State) :
    (startPhase ph i n s).carrier = s.carrier := rfl
@[simp] theorem startPhase_cfreq (ph : Phase) (i : Nat) (n : Word) (s : State) :
    (startPhase ph i n s).cfreq = s.cfreq := rfl
@[simp] theorem startPhase_cduty (ph : Phase) (i : Nat) (n : Word) (s : State) :
    (startPhase ph i n s).cduty = s.cduty := rfl
@[simp] theorem startPhase_phase (ph : Phase) (i : Nat) (n : Word) (s : State) :
    (startPhase ph i n s).phase = ph := rfl
@[simp] theorem startPhase_idx (ph : Phase) (i : Nat) (n : Word) (s : State) :
    (startPhase ph i n s).idx = BitVec.ofNat 32 i := rfl
@[simp] theorem startPhase_len (ph : Phase) (i : Nat) (n : Word) (s : State) :
    (startPhase ph i n s).len = s.len := rfl
@[simp] theorem startPhase_rem (ph : Phase) (i : Nat) (n : Word) (s : State) : (startPhase ph i n s).rem = n := rfl
@[simp] theorem startPhase_sym (ph : Phase) (i : Nat) (n : Word) (s : State) :
    (startPhase ph i n s).sym = s.sym := rfl
@[simp] theorem startPhase_symLen (ph : Phase) (i : Nat) (n : Word) (s : State) :
    (startPhase ph i n s).symLen = s.symLen := rfl
@[simp] theorem startPhase_toggleRc5 (ph : Phase) (i : Nat) (n : Word) (s : State) :
    (startPhase ph i n s).toggleRc5 = s.toggleRc5 := rfl
@[simp] theorem startPhase_toggleRc6 (ph : Phase) (i : Nat) (n : Word) (s : State) :
    (startPhase ph i n s).toggleRc6 = s.toggleRc6 := rfl
@[simp] theorem startPhase_ie (ph : Phase) (i : Nat) (n : Word) (s : State) : (startPhase ph i n s).ie = s.ie := rfl
@[simp] theorem startPhase_iesave (ph : Phase) (i : Nat) (n : Word) (s : State) :
    (startPhase ph i n s).iesave = s.iesave := rfl
@[simp] theorem startPhase_wave (ph : Phase) (i : Nat) (n : Word) (s : State) :
    (startPhase ph i n s).wave = s.wave := rfl
@[simp] theorem startPhase_draws (ph : Phase) (i : Nat) (n : Word) (s : State) :
    (startPhase ph i n s).draws = s.draws := rfl
@[simp] theorem startPhase_port (ph : Phase) (i : Nat) (n : Word) (s : State) :
    (startPhase ph i n s).port = s.port := rfl
@[simp] theorem startPhase_uport (ph : Phase) (i : Nat) (n : Word) (s : State) :
    (startPhase ph i n s).uport = s.uport := rfl

/-! ## endPhase -/

@[simp] theorem endPhase_opa (s : State) : (endPhase s).opa = s.opa := rfl
@[simp] theorem endPhase_opc (s : State) : (endPhase s).opc = s.opc := rfl
@[simp] theorem endPhase_opcap (s : State) : (endPhase s).opcap = s.opcap := rfl
@[simp] theorem endPhase_oplen (s : State) : (endPhase s).oplen = s.oplen := rfl
@[simp] theorem endPhase_opfreq (s : State) : (endPhase s).opfreq = s.opfreq := rfl
@[simp] theorem endPhase_opduty (s : State) : (endPhase s).opduty = s.opduty := rfl
@[simp] theorem endPhase_opname (s : State) : (endPhase s).opname = s.opname := rfl
@[simp] theorem endPhase_opnameLen (s : State) : (endPhase s).opnameLen = s.opnameLen := rfl
@[simp] theorem endPhase_err (s : State) : (endPhase s).err = s.err := rfl
@[simp] theorem endPhase_res0 (s : State) : (endPhase s).res0 = s.res0 := rfl
@[simp] theorem endPhase_resinfo (s : State) : (endPhase s).resinfo = s.resinfo := rfl
@[simp] theorem endPhase_init (s : State) : (endPhase s).init = s.init := rfl
@[simp] theorem endPhase_fault (s : State) : (endPhase s).fault = s.fault := rfl
@[simp] theorem endPhase_carrier (s : State) : (endPhase s).carrier = s.carrier := rfl
@[simp] theorem endPhase_cfreq (s : State) : (endPhase s).cfreq = s.cfreq := rfl
@[simp] theorem endPhase_cduty (s : State) : (endPhase s).cduty = s.cduty := rfl
@[simp] theorem endPhase_phase (s : State) : (endPhase s).phase = s.phase := rfl
@[simp] theorem endPhase_idx (s : State) : (endPhase s).idx = s.idx := rfl
@[simp] theorem endPhase_len (s : State) : (endPhase s).len = s.len := rfl
@[simp] theorem endPhase_rem (s : State) : (endPhase s).rem = 0 := rfl
@[simp] theorem endPhase_sym (s : State) : (endPhase s).sym = s.sym := rfl
@[simp] theorem endPhase_symLen (s : State) : (endPhase s).symLen = s.symLen := rfl
@[simp] theorem endPhase_toggleRc5 (s : State) : (endPhase s).toggleRc5 = s.toggleRc5 := rfl
@[simp] theorem endPhase_toggleRc6 (s : State) : (endPhase s).toggleRc6 = s.toggleRc6 := rfl
@[simp] theorem endPhase_ie (s : State) : (endPhase s).ie = s.ie := rfl
@[simp] theorem endPhase_iesave (s : State) : (endPhase s).iesave = s.iesave := rfl
@[simp] theorem endPhase_wave (s : State) : (endPhase s).wave = s.wave := rfl
@[simp] theorem endPhase_draws (s : State) : (endPhase s).draws = s.draws := rfl
@[simp] theorem endPhase_port (s : State) : (endPhase s).port = s.port := rfl
@[simp] theorem endPhase_uport (s : State) : (endPhase s).uport = s.uport := rfl

/-! ## takeMicro -/

@[simp] theorem takeMicro_opa (u : BitVec 34) (us : List (BitVec 34)) (s : State) :
    (takeMicro u us s).opa = s.opa := rfl
@[simp] theorem takeMicro_opc (u : BitVec 34) (us : List (BitVec 34)) (s : State) :
    (takeMicro u us s).opc = s.opc := rfl
@[simp] theorem takeMicro_opcap (u : BitVec 34) (us : List (BitVec 34)) (s : State) :
    (takeMicro u us s).opcap = s.opcap := rfl
@[simp] theorem takeMicro_oplen (u : BitVec 34) (us : List (BitVec 34)) (s : State) :
    (takeMicro u us s).oplen = s.oplen := rfl
@[simp] theorem takeMicro_opfreq (u : BitVec 34) (us : List (BitVec 34)) (s : State) :
    (takeMicro u us s).opfreq = s.opfreq := rfl
@[simp] theorem takeMicro_opduty (u : BitVec 34) (us : List (BitVec 34)) (s : State) :
    (takeMicro u us s).opduty = s.opduty := rfl
@[simp] theorem takeMicro_opname (u : BitVec 34) (us : List (BitVec 34)) (s : State) :
    (takeMicro u us s).opname = s.opname := rfl
@[simp] theorem takeMicro_opnameLen (u : BitVec 34) (us : List (BitVec 34)) (s : State) :
    (takeMicro u us s).opnameLen = s.opnameLen := rfl
@[simp] theorem takeMicro_err (u : BitVec 34) (us : List (BitVec 34)) (s : State) :
    (takeMicro u us s).err = s.err := rfl
@[simp] theorem takeMicro_res0 (u : BitVec 34) (us : List (BitVec 34)) (s : State) :
    (takeMicro u us s).res0 = s.res0 := rfl
@[simp] theorem takeMicro_resinfo (u : BitVec 34) (us : List (BitVec 34)) (s : State) :
    (takeMicro u us s).resinfo = s.resinfo := rfl
@[simp] theorem takeMicro_init (u : BitVec 34) (us : List (BitVec 34)) (s : State) :
    (takeMicro u us s).init = s.init := rfl
@[simp] theorem takeMicro_fault (u : BitVec 34) (us : List (BitVec 34)) (s : State) :
    (takeMicro u us s).fault = s.fault := rfl
@[simp] theorem takeMicro_carrier (u : BitVec 34) (us : List (BitVec 34)) (s : State) :
    (takeMicro u us s).carrier = s.carrier := rfl
@[simp] theorem takeMicro_cfreq (u : BitVec 34) (us : List (BitVec 34)) (s : State) :
    (takeMicro u us s).cfreq = s.cfreq := rfl
@[simp] theorem takeMicro_cduty (u : BitVec 34) (us : List (BitVec 34)) (s : State) :
    (takeMicro u us s).cduty = s.cduty := rfl
@[simp] theorem takeMicro_phase (u : BitVec 34) (us : List (BitVec 34)) (s : State) :
    (takeMicro u us s).phase = s.phase := rfl
@[simp] theorem takeMicro_idx (u : BitVec 34) (us : List (BitVec 34)) (s : State) :
    (takeMicro u us s).idx = s.idx := rfl
@[simp] theorem takeMicro_len (u : BitVec 34) (us : List (BitVec 34)) (s : State) :
    (takeMicro u us s).len = s.len := rfl
@[simp] theorem takeMicro_rem (u : BitVec 34) (us : List (BitVec 34)) (s : State) :
    (takeMicro u us s).rem = if uwUop u = 3 then 0 else s.rem := rfl
@[simp] theorem takeMicro_sym (u : BitVec 34) (us : List (BitVec 34)) (s : State) :
    (takeMicro u us s).sym = s.sym := rfl
@[simp] theorem takeMicro_symLen (u : BitVec 34) (us : List (BitVec 34)) (s : State) :
    (takeMicro u us s).symLen = s.symLen := rfl
@[simp] theorem takeMicro_toggleRc5 (u : BitVec 34) (us : List (BitVec 34)) (s : State) :
    (takeMicro u us s).toggleRc5 = s.toggleRc5 := rfl
@[simp] theorem takeMicro_toggleRc6 (u : BitVec 34) (us : List (BitVec 34)) (s : State) :
    (takeMicro u us s).toggleRc6 = s.toggleRc6 := rfl
@[simp] theorem takeMicro_ie (u : BitVec 34) (us : List (BitVec 34)) (s : State) : (takeMicro u us s).ie = s.ie := rfl
@[simp] theorem takeMicro_iesave (u : BitVec 34) (us : List (BitVec 34)) (s : State) :
    (takeMicro u us s).iesave = s.iesave := rfl
@[simp] theorem takeMicro_wave (u : BitVec 34) (us : List (BitVec 34)) (s : State) :
    (takeMicro u us s).wave = s.wave := rfl
@[simp] theorem takeMicro_draws (u : BitVec 34) (us : List (BitVec 34)) (s : State) :
    (takeMicro u us s).draws = s.draws := rfl
@[simp] theorem takeMicro_port (u : BitVec 34) (us : List (BitVec 34)) (s : State) :
    (takeMicro u us s).port = s.port := rfl
@[simp] theorem takeMicro_uport (u : BitVec 34) (us : List (BitVec 34)) (s : State) :
    (takeMicro u us s).uport = us := rfl

/-! ## takeAction -/

@[simp] theorem takeAction_opa (rest : List HostAction) (s : State) : (takeAction rest s).opa = s.opa := rfl
@[simp] theorem takeAction_opc (rest : List HostAction) (s : State) : (takeAction rest s).opc = s.opc := rfl
@[simp] theorem takeAction_opcap (rest : List HostAction) (s : State) : (takeAction rest s).opcap = s.opcap := rfl
@[simp] theorem takeAction_oplen (rest : List HostAction) (s : State) : (takeAction rest s).oplen = s.oplen := rfl
@[simp] theorem takeAction_opfreq (rest : List HostAction) (s : State) : (takeAction rest s).opfreq = s.opfreq := rfl
@[simp] theorem takeAction_opduty (rest : List HostAction) (s : State) : (takeAction rest s).opduty = s.opduty := rfl
@[simp] theorem takeAction_opname (rest : List HostAction) (s : State) : (takeAction rest s).opname = s.opname := rfl
@[simp] theorem takeAction_opnameLen (rest : List HostAction) (s : State) :
    (takeAction rest s).opnameLen = s.opnameLen := rfl
@[simp] theorem takeAction_err (rest : List HostAction) (s : State) : (takeAction rest s).err = s.err := rfl
@[simp] theorem takeAction_res0 (rest : List HostAction) (s : State) : (takeAction rest s).res0 = s.res0 := rfl
@[simp] theorem takeAction_resinfo (rest : List HostAction) (s : State) :
    (takeAction rest s).resinfo = s.resinfo := rfl
@[simp] theorem takeAction_init (rest : List HostAction) (s : State) : (takeAction rest s).init = s.init := rfl
@[simp] theorem takeAction_fault (rest : List HostAction) (s : State) : (takeAction rest s).fault = s.fault := rfl
@[simp] theorem takeAction_carrier (rest : List HostAction) (s : State) :
    (takeAction rest s).carrier = s.carrier := rfl
@[simp] theorem takeAction_cfreq (rest : List HostAction) (s : State) : (takeAction rest s).cfreq = s.cfreq := rfl
@[simp] theorem takeAction_cduty (rest : List HostAction) (s : State) : (takeAction rest s).cduty = s.cduty := rfl
@[simp] theorem takeAction_phase (rest : List HostAction) (s : State) : (takeAction rest s).phase = s.phase := rfl
@[simp] theorem takeAction_idx (rest : List HostAction) (s : State) : (takeAction rest s).idx = s.idx := rfl
@[simp] theorem takeAction_len (rest : List HostAction) (s : State) : (takeAction rest s).len = s.len := rfl
@[simp] theorem takeAction_rem (rest : List HostAction) (s : State) : (takeAction rest s).rem = s.rem := rfl
@[simp] theorem takeAction_sym (rest : List HostAction) (s : State) : (takeAction rest s).sym = s.sym := rfl
@[simp] theorem takeAction_symLen (rest : List HostAction) (s : State) : (takeAction rest s).symLen = s.symLen := rfl
@[simp] theorem takeAction_toggleRc5 (rest : List HostAction) (s : State) :
    (takeAction rest s).toggleRc5 = s.toggleRc5 := rfl
@[simp] theorem takeAction_toggleRc6 (rest : List HostAction) (s : State) :
    (takeAction rest s).toggleRc6 = s.toggleRc6 := rfl
@[simp] theorem takeAction_ie (rest : List HostAction) (s : State) : (takeAction rest s).ie = s.ie := rfl
@[simp] theorem takeAction_iesave (rest : List HostAction) (s : State) : (takeAction rest s).iesave = s.iesave := rfl
@[simp] theorem takeAction_wave (rest : List HostAction) (s : State) : (takeAction rest s).wave = s.wave := rfl
@[simp] theorem takeAction_draws (rest : List HostAction) (s : State) : (takeAction rest s).draws = s.draws := rfl
@[simp] theorem takeAction_port (rest : List HostAction) (s : State) : (takeAction rest s).port = rest := rfl
@[simp] theorem takeAction_uport (rest : List HostAction) (s : State) : (takeAction rest s).uport = s.uport := rfl

/-! ## presentCommand -/

@[simp] theorem presentCommand_opa (w : BitVec 32) (s : State) : (presentCommand w s).opa = s.opa := rfl
@[simp] theorem presentCommand_opc (w : BitVec 32) (s : State) : (presentCommand w s).opc = s.opc := rfl
@[simp] theorem presentCommand_opcap (w : BitVec 32) (s : State) : (presentCommand w s).opcap = s.opcap := rfl
@[simp] theorem presentCommand_oplen (w : BitVec 32) (s : State) : (presentCommand w s).oplen = s.oplen := rfl
@[simp] theorem presentCommand_opfreq (w : BitVec 32) (s : State) : (presentCommand w s).opfreq = s.opfreq := rfl
@[simp] theorem presentCommand_opduty (w : BitVec 32) (s : State) : (presentCommand w s).opduty = s.opduty := rfl
@[simp] theorem presentCommand_opname (w : BitVec 32) (s : State) : (presentCommand w s).opname = s.opname := rfl
@[simp] theorem presentCommand_opnameLen (w : BitVec 32) (s : State) :
    (presentCommand w s).opnameLen = s.opnameLen := rfl
@[simp] theorem presentCommand_err (w : BitVec 32) (s : State) : (presentCommand w s).err = s.err := rfl
@[simp] theorem presentCommand_res0 (w : BitVec 32) (s : State) : (presentCommand w s).res0 = s.res0 := rfl
@[simp] theorem presentCommand_resinfo (w : BitVec 32) (s : State) : (presentCommand w s).resinfo = s.resinfo := rfl
@[simp] theorem presentCommand_init (w : BitVec 32) (s : State) : (presentCommand w s).init = s.init := rfl
@[simp] theorem presentCommand_fault (w : BitVec 32) (s : State) : (presentCommand w s).fault = s.fault := rfl
@[simp] theorem presentCommand_carrier (w : BitVec 32) (s : State) : (presentCommand w s).carrier = s.carrier := rfl
@[simp] theorem presentCommand_cfreq (w : BitVec 32) (s : State) : (presentCommand w s).cfreq = s.cfreq := rfl
@[simp] theorem presentCommand_cduty (w : BitVec 32) (s : State) : (presentCommand w s).cduty = s.cduty := rfl
@[simp] theorem presentCommand_phase (w : BitVec 32) (s : State) : (presentCommand w s).phase = .idle := rfl
@[simp] theorem presentCommand_idx (w : BitVec 32) (s : State) : (presentCommand w s).idx = s.idx := rfl
@[simp] theorem presentCommand_len (w : BitVec 32) (s : State) : (presentCommand w s).len = s.len := rfl
@[simp] theorem presentCommand_rem (w : BitVec 32) (s : State) : (presentCommand w s).rem = s.rem := rfl
@[simp] theorem presentCommand_sym (w : BitVec 32) (s : State) : (presentCommand w s).sym = s.sym := rfl
@[simp] theorem presentCommand_symLen (w : BitVec 32) (s : State) : (presentCommand w s).symLen = s.symLen := rfl
@[simp] theorem presentCommand_toggleRc5 (w : BitVec 32) (s : State) :
    (presentCommand w s).toggleRc5 = s.toggleRc5 := rfl
@[simp] theorem presentCommand_toggleRc6 (w : BitVec 32) (s : State) :
    (presentCommand w s).toggleRc6 = s.toggleRc6 := rfl
@[simp] theorem presentCommand_ie (w : BitVec 32) (s : State) : (presentCommand w s).ie = s.ie := rfl
@[simp] theorem presentCommand_iesave (w : BitVec 32) (s : State) : (presentCommand w s).iesave = s.iesave := rfl
@[simp] theorem presentCommand_wave (w : BitVec 32) (s : State) : (presentCommand w s).wave = s.wave := rfl
@[simp] theorem presentCommand_draws (w : BitVec 32) (s : State) : (presentCommand w s).draws = s.draws := rfl
@[simp] theorem presentCommand_port (w : BitVec 32) (s : State) :
    (presentCommand w s).port = .command w :: s.port := rfl
@[simp] theorem presentCommand_uport (w : BitVec 32) (s : State) : (presentCommand w s).uport = [] := rfl

/-! ## presentMicro -/

@[simp] theorem presentMicro_opa (u : BitVec 34) (s : State) : (presentMicro u s).opa = s.opa := rfl
@[simp] theorem presentMicro_opc (u : BitVec 34) (s : State) : (presentMicro u s).opc = s.opc := rfl
@[simp] theorem presentMicro_opcap (u : BitVec 34) (s : State) : (presentMicro u s).opcap = s.opcap := rfl
@[simp] theorem presentMicro_oplen (u : BitVec 34) (s : State) : (presentMicro u s).oplen = s.oplen := rfl
@[simp] theorem presentMicro_opfreq (u : BitVec 34) (s : State) : (presentMicro u s).opfreq = s.opfreq := rfl
@[simp] theorem presentMicro_opduty (u : BitVec 34) (s : State) : (presentMicro u s).opduty = s.opduty := rfl
@[simp] theorem presentMicro_opname (u : BitVec 34) (s : State) : (presentMicro u s).opname = s.opname := rfl
@[simp] theorem presentMicro_opnameLen (u : BitVec 34) (s : State) : (presentMicro u s).opnameLen = s.opnameLen := rfl
@[simp] theorem presentMicro_err (u : BitVec 34) (s : State) : (presentMicro u s).err = s.err := rfl
@[simp] theorem presentMicro_res0 (u : BitVec 34) (s : State) : (presentMicro u s).res0 = s.res0 := rfl
@[simp] theorem presentMicro_resinfo (u : BitVec 34) (s : State) : (presentMicro u s).resinfo = s.resinfo := rfl
@[simp] theorem presentMicro_init (u : BitVec 34) (s : State) : (presentMicro u s).init = s.init := rfl
@[simp] theorem presentMicro_fault (u : BitVec 34) (s : State) : (presentMicro u s).fault = s.fault := rfl
@[simp] theorem presentMicro_carrier (u : BitVec 34) (s : State) : (presentMicro u s).carrier = s.carrier := rfl
@[simp] theorem presentMicro_cfreq (u : BitVec 34) (s : State) : (presentMicro u s).cfreq = s.cfreq := rfl
@[simp] theorem presentMicro_cduty (u : BitVec 34) (s : State) : (presentMicro u s).cduty = s.cduty := rfl
@[simp] theorem presentMicro_phase (u : BitVec 34) (s : State) : (presentMicro u s).phase = s.phase := rfl
@[simp] theorem presentMicro_idx (u : BitVec 34) (s : State) : (presentMicro u s).idx = s.idx := rfl
@[simp] theorem presentMicro_len (u : BitVec 34) (s : State) : (presentMicro u s).len = s.len := rfl
@[simp] theorem presentMicro_rem (u : BitVec 34) (s : State) : (presentMicro u s).rem = s.rem := rfl
@[simp] theorem presentMicro_sym (u : BitVec 34) (s : State) : (presentMicro u s).sym = s.sym := rfl
@[simp] theorem presentMicro_symLen (u : BitVec 34) (s : State) : (presentMicro u s).symLen = s.symLen := rfl
@[simp] theorem presentMicro_toggleRc5 (u : BitVec 34) (s : State) : (presentMicro u s).toggleRc5 = s.toggleRc5 := rfl
@[simp] theorem presentMicro_toggleRc6 (u : BitVec 34) (s : State) : (presentMicro u s).toggleRc6 = s.toggleRc6 := rfl
@[simp] theorem presentMicro_ie (u : BitVec 34) (s : State) : (presentMicro u s).ie = s.ie := rfl
@[simp] theorem presentMicro_iesave (u : BitVec 34) (s : State) : (presentMicro u s).iesave = s.iesave := rfl
@[simp] theorem presentMicro_wave (u : BitVec 34) (s : State) : (presentMicro u s).wave = s.wave := rfl
@[simp] theorem presentMicro_draws (u : BitVec 34) (s : State) : (presentMicro u s).draws = s.draws := rfl
@[simp] theorem presentMicro_port (u : BitVec 34) (s : State) : (presentMicro u s).port = s.port := rfl
@[simp] theorem presentMicro_uport (u : BitVec 34) (s : State) : (presentMicro u s).uport = u :: s.uport := rfl

/-! ## setToggle, flipToggle -/

@[simp] theorem setToggle_opa (P : Proto) (v : Bool) (s : State) : (setToggle P v s).opa = s.opa := by cases P <;> rfl
@[simp] theorem setToggle_opc (P : Proto) (v : Bool) (s : State) : (setToggle P v s).opc = s.opc := by cases P <;> rfl
@[simp] theorem setToggle_opcap (P : Proto) (v : Bool) (s : State) : (setToggle P v s).opcap = s.opcap := by cases P <;> rfl
@[simp] theorem setToggle_oplen (P : Proto) (v : Bool) (s : State) : (setToggle P v s).oplen = s.oplen := by cases P <;> rfl
@[simp] theorem setToggle_opfreq (P : Proto) (v : Bool) (s : State) : (setToggle P v s).opfreq = s.opfreq := by cases P <;> rfl
@[simp] theorem setToggle_opduty (P : Proto) (v : Bool) (s : State) : (setToggle P v s).opduty = s.opduty := by cases P <;> rfl
@[simp] theorem setToggle_opname (P : Proto) (v : Bool) (s : State) : (setToggle P v s).opname = s.opname := by cases P <;> rfl
@[simp] theorem setToggle_opnameLen (P : Proto) (v : Bool) (s : State) : (setToggle P v s).opnameLen = s.opnameLen := by cases P <;> rfl
@[simp] theorem setToggle_err (P : Proto) (v : Bool) (s : State) : (setToggle P v s).err = s.err := by cases P <;> rfl
@[simp] theorem setToggle_res0 (P : Proto) (v : Bool) (s : State) : (setToggle P v s).res0 = s.res0 := by cases P <;> rfl
@[simp] theorem setToggle_resinfo (P : Proto) (v : Bool) (s : State) : (setToggle P v s).resinfo = s.resinfo := by cases P <;> rfl
@[simp] theorem setToggle_init (P : Proto) (v : Bool) (s : State) : (setToggle P v s).init = s.init := by cases P <;> rfl
@[simp] theorem setToggle_fault (P : Proto) (v : Bool) (s : State) : (setToggle P v s).fault = s.fault := by cases P <;> rfl
@[simp] theorem setToggle_carrier (P : Proto) (v : Bool) (s : State) : (setToggle P v s).carrier = s.carrier := by cases P <;> rfl
@[simp] theorem setToggle_cfreq (P : Proto) (v : Bool) (s : State) : (setToggle P v s).cfreq = s.cfreq := by cases P <;> rfl
@[simp] theorem setToggle_cduty (P : Proto) (v : Bool) (s : State) : (setToggle P v s).cduty = s.cduty := by cases P <;> rfl
@[simp] theorem setToggle_phase (P : Proto) (v : Bool) (s : State) : (setToggle P v s).phase = s.phase := by cases P <;> rfl
@[simp] theorem setToggle_idx (P : Proto) (v : Bool) (s : State) : (setToggle P v s).idx = s.idx := by cases P <;> rfl
@[simp] theorem setToggle_len (P : Proto) (v : Bool) (s : State) : (setToggle P v s).len = s.len := by cases P <;> rfl
@[simp] theorem setToggle_rem (P : Proto) (v : Bool) (s : State) : (setToggle P v s).rem = s.rem := by cases P <;> rfl
@[simp] theorem setToggle_sym (P : Proto) (v : Bool) (s : State) : (setToggle P v s).sym = s.sym := by cases P <;> rfl
@[simp] theorem setToggle_symLen (P : Proto) (v : Bool) (s : State) : (setToggle P v s).symLen = s.symLen := by cases P <;> rfl
@[simp] theorem setToggle_ie (P : Proto) (v : Bool) (s : State) : (setToggle P v s).ie = s.ie := by cases P <;> rfl
@[simp] theorem setToggle_iesave (P : Proto) (v : Bool) (s : State) : (setToggle P v s).iesave = s.iesave := by cases P <;> rfl
@[simp] theorem setToggle_wave (P : Proto) (v : Bool) (s : State) : (setToggle P v s).wave = s.wave := by cases P <;> rfl
@[simp] theorem setToggle_draws (P : Proto) (v : Bool) (s : State) : (setToggle P v s).draws = s.draws := by cases P <;> rfl
@[simp] theorem setToggle_port (P : Proto) (v : Bool) (s : State) : (setToggle P v s).port = s.port := by cases P <;> rfl
@[simp] theorem setToggle_uport (P : Proto) (v : Bool) (s : State) : (setToggle P v s).uport = s.uport := by cases P <;> rfl
@[simp] theorem flipToggle_opa (P : Proto) (b : Bool) (s : State) : (flipToggle P b s).opa = s.opa := by
  unfold flipToggle; split <;> simp
@[simp] theorem flipToggle_opc (P : Proto) (b : Bool) (s : State) : (flipToggle P b s).opc = s.opc := by
  unfold flipToggle; split <;> simp
@[simp] theorem flipToggle_opcap (P : Proto) (b : Bool) (s : State) : (flipToggle P b s).opcap = s.opcap := by
  unfold flipToggle; split <;> simp
@[simp] theorem flipToggle_oplen (P : Proto) (b : Bool) (s : State) : (flipToggle P b s).oplen = s.oplen := by
  unfold flipToggle; split <;> simp
@[simp] theorem flipToggle_opfreq (P : Proto) (b : Bool) (s : State) : (flipToggle P b s).opfreq = s.opfreq := by
  unfold flipToggle; split <;> simp
@[simp] theorem flipToggle_opduty (P : Proto) (b : Bool) (s : State) : (flipToggle P b s).opduty = s.opduty := by
  unfold flipToggle; split <;> simp
@[simp] theorem flipToggle_opname (P : Proto) (b : Bool) (s : State) : (flipToggle P b s).opname = s.opname := by
  unfold flipToggle; split <;> simp
@[simp] theorem flipToggle_opnameLen (P : Proto) (b : Bool) (s : State) : (flipToggle P b s).opnameLen = s.opnameLen := by
  unfold flipToggle; split <;> simp
@[simp] theorem flipToggle_err (P : Proto) (b : Bool) (s : State) : (flipToggle P b s).err = s.err := by
  unfold flipToggle; split <;> simp
@[simp] theorem flipToggle_res0 (P : Proto) (b : Bool) (s : State) : (flipToggle P b s).res0 = s.res0 := by
  unfold flipToggle; split <;> simp
@[simp] theorem flipToggle_resinfo (P : Proto) (b : Bool) (s : State) : (flipToggle P b s).resinfo = s.resinfo := by
  unfold flipToggle; split <;> simp
@[simp] theorem flipToggle_init (P : Proto) (b : Bool) (s : State) : (flipToggle P b s).init = s.init := by
  unfold flipToggle; split <;> simp
@[simp] theorem flipToggle_fault (P : Proto) (b : Bool) (s : State) : (flipToggle P b s).fault = s.fault := by
  unfold flipToggle; split <;> simp
@[simp] theorem flipToggle_carrier (P : Proto) (b : Bool) (s : State) : (flipToggle P b s).carrier = s.carrier := by
  unfold flipToggle; split <;> simp
@[simp] theorem flipToggle_cfreq (P : Proto) (b : Bool) (s : State) : (flipToggle P b s).cfreq = s.cfreq := by
  unfold flipToggle; split <;> simp
@[simp] theorem flipToggle_cduty (P : Proto) (b : Bool) (s : State) : (flipToggle P b s).cduty = s.cduty := by
  unfold flipToggle; split <;> simp
@[simp] theorem flipToggle_phase (P : Proto) (b : Bool) (s : State) : (flipToggle P b s).phase = s.phase := by
  unfold flipToggle; split <;> simp
@[simp] theorem flipToggle_idx (P : Proto) (b : Bool) (s : State) : (flipToggle P b s).idx = s.idx := by
  unfold flipToggle; split <;> simp
@[simp] theorem flipToggle_len (P : Proto) (b : Bool) (s : State) : (flipToggle P b s).len = s.len := by
  unfold flipToggle; split <;> simp
@[simp] theorem flipToggle_rem (P : Proto) (b : Bool) (s : State) : (flipToggle P b s).rem = s.rem := by
  unfold flipToggle; split <;> simp
@[simp] theorem flipToggle_sym (P : Proto) (b : Bool) (s : State) : (flipToggle P b s).sym = s.sym := by
  unfold flipToggle; split <;> simp
@[simp] theorem flipToggle_symLen (P : Proto) (b : Bool) (s : State) : (flipToggle P b s).symLen = s.symLen := by
  unfold flipToggle; split <;> simp
@[simp] theorem flipToggle_ie (P : Proto) (b : Bool) (s : State) : (flipToggle P b s).ie = s.ie := by
  unfold flipToggle; split <;> simp
@[simp] theorem flipToggle_iesave (P : Proto) (b : Bool) (s : State) : (flipToggle P b s).iesave = s.iesave := by
  unfold flipToggle; split <;> simp
@[simp] theorem flipToggle_wave (P : Proto) (b : Bool) (s : State) : (flipToggle P b s).wave = s.wave := by
  unfold flipToggle; split <;> simp
@[simp] theorem flipToggle_draws (P : Proto) (b : Bool) (s : State) : (flipToggle P b s).draws = s.draws := by
  unfold flipToggle; split <;> simp
@[simp] theorem flipToggle_port (P : Proto) (b : Bool) (s : State) : (flipToggle P b s).port = s.port := by
  unfold flipToggle; split <;> simp
@[simp] theorem flipToggle_uport (P : Proto) (b : Bool) (s : State) : (flipToggle P b s).uport = s.uport := by
  unfold flipToggle; split <;> simp

theorem setToggle_toggleRc5 (P : Proto) (v : Bool) (s : State) :
    (setToggle P v s).toggleRc5 = if P = .rc5 then v else s.toggleRc5 := by cases P <;> rfl
theorem setToggle_toggleRc6 (P : Proto) (v : Bool) (s : State) :
    (setToggle P v s).toggleRc6 = if P = .rc6 then v else s.toggleRc6 := by cases P <;> rfl

theorem flipToggle_toggleRc5 (P : Proto) (b : Bool) (s : State) :
    (flipToggle P b s).toggleRc5 = if P = .rc5 ∧ b = true then !s.toggleRc5 else s.toggleRc5 := by
  cases P <;> cases b <;> rfl
theorem flipToggle_toggleRc6 (P : Proto) (b : Bool) (s : State) :
    (flipToggle P b s).toggleRc6 = if P = .rc6 ∧ b = true then !s.toggleRc6 else s.toggleRc6 := by
  cases P <;> cases b <;> rfl

/-- A protocol without a toggle bit keeps the state (R133 last row). -/
theorem flipToggle_of_no_toggle {P : Proto} (h : hasToggle P = false) (b : Bool) (s : State) : flipToggle P b s = s := by
  unfold flipToggle; simp [h]

end Sys2Proof.Machine
end

