-- ==== Sys2Proof/Laws/Carrier.lean ====
section
/-! SUPPORT. What the sequencer and the emission of a frame do, once and for all: the closed form `emitted`. -/

namespace Sys2Proof.Machine

/-- One symbol (R124): its mark and its space, and the carrier off at the end. -/
theorem symbolPhases (i : Nat) (v : Symbol) (s : State) :
    spacePhase i v.space (markPhase i v.mark s) =
      { s with
        phase := .space
        idx := BitVec.ofNat 32 i
        rem := 0
        carrier := false
        wave := s.wave ++ (markItems s.cfreq s.cduty v.mark ++ spaceItems v.space) } := by
  simp only [spacePhase, markPhase, endPhase, startPhase, cen, cdis, dly, dlyItems, markItems, spaceItems,
    if_true, Bool.false_eq_true, if_false, List.append_assoc]

/-- The loop of the sequencer over a sequence that is not empty (R124, R129). -/
theorem seqFrom_eq (S : List Symbol) (i : Nat) (v : Symbol) (s : State) :
    seqFrom i (v :: S) s =
      { s with
        phase := .space
        idx := BitVec.ofNat 32 (i + S.length)
        rem := 0
        carrier := false
        wave := s.wave ++ waveOf s.cfreq s.cduty (v :: S) } := by
  induction S generalizing i v s with
  | nil => simp [seqFrom, symbolPhases, waveOf]
  | cons w rest ih =>
    rw [seqFrom, ih, symbolPhases]
    simp only [waveOf, List.append_assoc, List.length_cons]
    congr 2
    omega

/-- The emission of a frame in closed form (R121, R122, R124, R129). -/
theorem emit_eq_emitted (S : List Symbol) (s : State) : emit S s = emitted S s := by
  cases S with
  | nil => simp [emit, seq, seqFrom, emitted, critEnter, critExit, waveOf]
  | cons v rest => simp [emit, seq, seqFrom_eq, emitted, critEnter, critExit, List.append_assoc]

/-- A gap recorded with the carrier off (R128, R136). -/
theorem dly_of_carrier_off {s : State} (h : s.carrier = false) (n : Word) :
    dly n s = { s with wave := s.wave ++ spaceItems n } := by
  simp [dly, dlyItems, spaceItems, h]

/-- The items of `WAVEOF` add up to the duration of the symbols (R130), item by item. -/
theorem waveDur_append (V W : List WaveItem) : waveDur (V ++ W) = waveDur V + waveDur W := by
  induction V with
  | nil => simp [waveDur]
  | cons x rest ih => cases x <;> simp [waveDur, ih, Nat.add_assoc]

end Sys2Proof.Machine
end

