-- ==== Sys2Proof/Laws/Catalog.lean ====
section
/-! SUPPORT. The parameters of the machine are legal, and an entry that is legal is left as it is: the opaque
constants range over every legal catalog and over nothing else. -/

namespace Sys2Proof.Machine

theorem legalHalfBit_le (P : Proto) (hb : Word) (h : isManchester P = true) :
    3 * (legalHalfBit P hb).toNat < 2 ^ 32 := by
  unfold legalHalfBit
  split
  · simp
  · rename_i hn
    simp only [h, true_and, not_le] at hn
    exact hn

theorem legalHeader_gt (hb h : Word) (hlt : 3 * hb.toNat < 2 ^ 32) : hb.toNat < (legalHeader .rc6 hb h).toNat := by
  unfold legalHeader
  split
  · rw [BitVec.toNat_add, show (1 : Word).toNat = 1 from rfl]
    omega
  · rename_i hn
    simp only [true_and, not_le] at hn
    exact hn

/-- The machine's catalog entries meet R79, R87 and the RC6 header constraint of R78. -/
theorem legalTiming_legal (P : Proto) (t : TimingSpec) : TimingLegal P (legalTiming P t) where
  freq := by
    simp only [legalTiming]
    split <;> simp_all
  duty := by
    simp only [legalTiming]
    split
    · simp
    · omega
  stop := by
    intro h
    simp [legalTiming, h]
  halfBit := legalHalfBit_le P t.bitOneMarkUs
  headerMark := by
    rintro rfl
    exact legalHeader_gt _ _ (legalHalfBit_le .rc6 t.bitOneMarkUs rfl)
  headerSpace := by
    rintro rfl
    exact legalHeader_gt _ _ (legalHalfBit_le .rc6 t.bitOneMarkUs rfl)

/-- A legal catalog entry is left as it is. -/
theorem legalTiming_eq_self {P : Proto} {t : TimingSpec} (h : TimingLegal P t) : legalTiming P t = t := by
  have hb : legalHalfBit P t.bitOneMarkUs = t.bitOneMarkUs := by
    unfold legalHalfBit
    rw [if_neg]
    rintro ⟨h1, h2⟩
    exact absurd (h.halfBit h1) (by omega)
  have hm : legalHeader P t.bitOneMarkUs t.headerMarkUs = t.headerMarkUs := by
    unfold legalHeader
    rw [if_neg]
    rintro ⟨h1, h2⟩
    exact absurd (h.headerMark h1) (by omega)
  have hs : legalHeader P t.bitOneMarkUs t.headerSpaceUs = t.headerSpaceUs := by
    unfold legalHeader
    rw [if_neg]
    rintro ⟨h1, h2⟩
    exact absurd (h.headerSpace h1) (by omega)
  have hst : (if stopRequired P then some (t.stopBitUs.getD 0) else t.stopBitUs) = t.stopBitUs := by
    split
    · rename_i hr
      obtain ⟨n, hn⟩ := Option.isSome_iff_exists.1 (h.stop hr)
      simp [hn]
    · rfl
  have hd : ¬ 100 < t.dutyCyclePercent.toNat := by
    have := h.duty
    omega
  simp only [legalTiming, hb, hm, hs, hst, if_neg h.freq, if_neg hd]

/-- The parameters the machine runs with are legal. -/
theorem params_legal : ParamsLegal params where
  nsym_ge := Nat.le_add_left 52 _
  nsym_lt := by
    have h := Config.nsymExtra.isLt
    show Config.nsymExtra.val + 52 < 2 ^ 32
    omega
  nameMax_ge := Nat.le_add_left 10 _
  nameMax_lt := by
    have h := Config.nameMaxExtra.isLt
    show Config.nameMaxExtra.val + 10 < 2 ^ 32
    omega
  timing := fun P => legalTiming_legal P (Config.timing P)
  encExt := by
    intro P e he a c
    simp only [params, Option.map_eq_some_iff] at he
    obtain ⟨e', _, rfl⟩ := he
    exact List.length_take_le _ _
  rptCount := fun P => Nat.le_add_left 1 _

end Sys2Proof.Machine
end

