-- ==== Sys2Proof/Laws/Decode.lean ====
section
/-! SUPPORT. The fields of a command word built from its fields, and of the three micro-operation words: what a round
trip needs to know of `commandWord`, `cenWord`, `cdisWord` and `dlyWord`. -/

namespace Sys2Proof

section
variable (op : BitVec 4) (proto : BitVec 5) (var : BitVec 2) (tgl auto rpt ext : Bool)

@[simp] theorem cwOp_commandWord : cwOp (commandWord op proto var tgl auto rpt ext) = op := by
  simp only [cwOp, commandWord]
  ext i hi
  simp only [BitVec.getElem_extractLsb', BitVec.getLsbD_append]
  interval_cases i <;> simp [BitVec.getLsbD_eq_getElem]

@[simp] theorem cwProto_commandWord : cwProto (commandWord op proto var tgl auto rpt ext) = proto := by
  simp only [cwProto, commandWord]
  ext i hi
  simp only [BitVec.getElem_extractLsb', BitVec.getLsbD_append]
  interval_cases i <;> simp [BitVec.getLsbD_eq_getElem]

@[simp] theorem cwVar_commandWord : cwVar (commandWord op proto var tgl auto rpt ext) = var := by
  simp only [cwVar, commandWord]
  ext i hi
  simp only [BitVec.getElem_extractLsb', BitVec.getLsbD_append]
  interval_cases i <;> simp [BitVec.getLsbD_eq_getElem]

@[simp] theorem cwReserved_commandWord : cwReserved (commandWord op proto var tgl auto rpt ext) = 0 := by
  simp only [cwReserved, commandWord]
  ext i hi
  simp only [BitVec.getElem_extractLsb', BitVec.getLsbD_append, Nat.zero_add, if_pos hi]
  simp

@[simp] theorem cwTgl_commandWord : cwTgl (commandWord op proto var tgl auto rpt ext) = tgl := by
  simp only [cwTgl, commandWord, BitVec.getLsbD_append]
  simp

@[simp] theorem cwAuto_commandWord : cwAuto (commandWord op proto var tgl auto rpt ext) = auto := by
  simp only [cwAuto, commandWord, BitVec.getLsbD_append]
  simp

@[simp] theorem cwRpt_commandWord : cwRpt (commandWord op proto var tgl auto rpt ext) = rpt := by
  simp only [cwRpt, commandWord, BitVec.getLsbD_append]
  simp

@[simp] theorem cwExt_commandWord : cwExt (commandWord op proto var tgl auto rpt ext) = ext := by
  simp only [cwExt, commandWord, BitVec.getLsbD_append]
  simp

end

@[simp] theorem protoOfCode_protoCode (P : Proto) : protoOfCode (protoCode P) = some P := by
  cases P <;> rfl

/-- A code below 18 is the code of its protocol. -/
theorem protoCode_of_protoOfCode {c : BitVec 5} {P : Proto} (h : protoOfCode c = some P) : protoCode P = c := by
  revert c
  cases P <;> decide

/-- Exactly the codes from 18 on are outside the valid range (R55). -/
theorem protoOfCode_eq_none_iff (c : BitVec 5) : protoOfCode c = none ↔ 18 ≤ c.toNat := by
  revert c
  decide

@[simp] theorem uwUop_cenWord (d : Duty) : uwUop (cenWord d) = 1#2 := by
  revert d
  decide

@[simp] theorem uwUop_cdisWord : uwUop cdisWord = 2#2 := by decide

@[simp] theorem uwUop_dlyWord (n : Word) : uwUop (dlyWord n) = 3#2 := by
  simp only [uwUop, dlyWord]
  ext i hi
  simp only [BitVec.getElem_extractLsb', BitVec.getLsbD_append]
  interval_cases i <;> simp

@[simp] theorem uwArg_dlyWord (n : Word) : uwArg (dlyWord n) = n := by
  simp only [uwArg, dlyWord]
  ext i hi
  simp only [BitVec.getElem_extractLsb', BitVec.getLsbD_append, Nat.zero_add, if_pos hi]
  exact BitVec.getLsbD_eq_getElem hi

/-- The word of CEN decodes to it (R60). -/
@[simp] theorem decodeMicro_cenWord (d : Duty) : decodeMicro (cenWord d) = .ok (.cen d) := by
  revert d
  decide

/-- The word of CDIS decodes to it (R60). -/
@[simp] theorem decodeMicro_cdisWord : decodeMicro cdisWord = .ok .cdis := by decide

/-- The word of DLY decodes to it (R60). -/
@[simp] theorem decodeMicro_dlyWord (n : Word) : decodeMicro (dlyWord n) = .ok (.dly n) := by
  simp [decodeMicro]

end Sys2Proof
end

