-- ==== Sys2Proof/Laws/Memory.lean ====
section
/-! SUPPORT. The symbol buffer: a read after a write, what a write leaves alone, and the canonical form. -/

namespace Sys2Proof.Machine

theorem symGet_symSet (m : SymMem) (i j : Nat) (v : Symbol) (lo : Nat) (h : symRising lo m = true) :
    symGet (symSet m i v) j = if i = j then some v else symGet m j := by
  induction m generalizing lo with
  | nil => simp [symSet, symGet]
  | cons c rest ih =>
    obtain ⟨k, w⟩ := c
    simp only [symRising, Bool.and_eq_true, decide_eq_true_eq] at h
    simp only [symSet]
    split
    · simp only [symGet]
    · split
      · rename_i hk
        subst hk
        simp only [symGet]
        split <;> simp_all
      · simp only [symGet]
        rw [ih (k + 1) h.2]
        split <;> split <;> simp_all

theorem symRising_mono {lo lo' : Nat} {m : SymMem} (h : symRising lo m = true) (hle : lo' ≤ lo) :
    symRising lo' m = true := by
  cases m with
  | nil => rfl
  | cons c rest =>
    simp only [symRising, Bool.and_eq_true, decide_eq_true_eq] at h ⊢
    exact ⟨by omega, h.2⟩

theorem symRising_symSet (m : SymMem) (i : Nat) (v : Symbol) (lo : Nat) (hlo : lo ≤ i) (h : symRising lo m = true) :
    symRising lo (symSet m i v) = true := by
  induction m generalizing lo with
  | nil => simp [symSet, symRising, hlo]
  | cons c rest ih =>
    obtain ⟨k, w⟩ := c
    simp only [symRising, Bool.and_eq_true, decide_eq_true_eq] at h
    simp only [symSet]
    split
    · simp only [symRising, Bool.and_eq_true, decide_eq_true_eq]
      exact ⟨hlo, by omega, h.2⟩
    · split
      · rename_i hk
        subst hk
        simp [symRising, hlo, h.2]
      · simp only [symRising, Bool.and_eq_true, decide_eq_true_eq]
        exact ⟨h.1, ih (k + 1) (by omega) h.2⟩

/-- A write of one entry keeps the canonical form. -/
theorem wf_symSet {m : SymMem} (h : Memory.wf m = true) (i : Nat) (v : Symbol) : Memory.wf (symSet m i v) = true :=
  symRising_symSet m i v 0 (Nat.zero_le i) h

/-- A write of a list of entries keeps the canonical form. -/
theorem wf_memWrite (L : List Symbol) {m : SymMem} (h : Memory.wf m = true) (i : Nat) :
    Memory.wf (memWrite m i L) = true := by
  induction L generalizing m i with
  | nil => exact h
  | cons v rest ih => exact ih (wf_symSet h i v) (i + 1)

theorem symBelow_symSet {n : Nat} {m : SymMem} (h : symBelow n m = true) {i : Nat} (hi : i < n) (v : Symbol) :
    symBelow n (symSet m i v) = true := by
  induction m with
  | nil => simp [symSet, symBelow, hi]
  | cons c rest ih =>
    obtain ⟨k, w⟩ := c
    simp only [symBelow, List.all_cons, Bool.and_eq_true, decide_eq_true_eq] at h ih ⊢
    simp only [symSet]
    split
    · simp [hi, h.1, h.2]
    · split
      · simp [hi, h.2]
      · simp [h.1, ih h.2]

/-- A frame that fits below `n` leaves every listed entry below `n`. -/
theorem symBelow_memWrite {n : Nat} (L : List Symbol) {m : SymMem} (h : symBelow n m = true) {i : Nat}
    (hi : i + L.length ≤ n) : symBelow n (memWrite m i L) = true := by
  induction L generalizing m i with
  | nil => exact h
  | cons v rest ih =>
    simp only [List.length_cons] at hi
    exact ih (symBelow_symSet h (by omega) v) (by omega)

/-- Everything a list write does: entry `i + k` reads as `L[k]`, every other entry as before. -/
theorem symGet_memWrite (L : List Symbol) {m : SymMem} (h : Memory.wf m = true) (i j : Nat) :
    symGet (memWrite m i L) j = if i ≤ j ∧ j < i + L.length then L[j - i]? else symGet m j := by
  induction L generalizing m i with
  | nil => simp [memWrite]
  | cons v rest ih =>
    rw [memWrite, ih (wf_symSet h i v), symGet_symSet m i j v 0 h]
    simp only [List.length_cons]
    by_cases hij : i = j
    · subst hij; simp
    · by_cases h1 : i + 1 ≤ j ∧ j < i + 1 + rest.length
      · rw [if_pos h1, if_pos (by omega)]
        obtain ⟨d, hd⟩ : ∃ d, j - i = d + 1 := ⟨j - i - 1, by omega⟩
        rw [hd, List.getElem?_cons_succ]
        congr 1; omega
      · rw [if_neg h1, if_neg hij, if_neg (by omega)]

/-- A range reads as `L` exactly when each entry reads as that symbol. -/
theorem memRead_eq_ok_iff (m : SymMem) (i n : Nat) (L : List Symbol) :
    memRead m i n = .ok L ↔ L.length = n ∧ ∀ k, k < n → symGet m (i + k) = L[k]? := by
  induction n generalizing i L with
  | zero => cases L <;> simp [memRead]
  | succ n ih =>
    simp only [memRead]
    cases hg : symGet m i with
    | none =>
      simp only [reduceCtorEq, false_iff, not_and, not_forall]
      intro hl
      refine ⟨0, by omega, ?_⟩
      cases L with
      | nil => simp at hl
      | cons a t => simp [hg]
    | some v =>
      cases hr : memRead m (i + 1) n with
      | error k =>
        simp only [reduceCtorEq, false_iff, not_and]
        intro hl hall
        cases L with
        | nil => simp at hl
        | cons a t =>
          have := (ih (i + 1) t).2 ⟨by simpa using hl, fun k hk => by
            have := hall (k + 1) (by omega)
            rwa [List.getElem?_cons_succ, ← Nat.add_assoc, Nat.add_right_comm] at this⟩
          rw [hr] at this
          cases this
      | ok rest =>
        have hrest := (ih (i + 1) rest).1 hr
        simp only [Except.ok.injEq]
        constructor
        · rintro rfl
          refine ⟨by simp [hrest.1], fun k hk => ?_⟩
          cases k with
          | zero => simp [hg]
          | succ k =>
            rw [List.getElem?_cons_succ, ← hrest.2 k (by omega)]
            congr 1; omega
        · rintro ⟨hl, hall⟩
          cases L with
          | nil => simp at hl
          | cons a t =>
            have h0 := hall 0 (by omega)
            simp only [Nat.add_zero, hg, List.getElem?_cons_zero, Option.some.injEq] at h0
            have := (ih (i + 1) t).2 ⟨by simpa using hl, fun k hk => by
              have := hall (k + 1) (by omega)
              rwa [List.getElem?_cons_succ, ← Nat.add_assoc, Nat.add_right_comm] at this⟩
            rw [hr] at this
            cases this
            rw [h0]

/-- A read of a frame just written gives the frame. -/
theorem memRead_memWrite (L : List Symbol) {m : SymMem} (h : Memory.wf m = true) :
    memRead (memWrite m 0 L) 0 L.length = .ok L := by
  rw [memRead_eq_ok_iff]
  refine ⟨rfl, fun k hk => ?_⟩
  rw [symGet_memWrite L h, if_pos (by omega)]
  simp

end Sys2Proof.Machine
end

