-- ==== Sys2Proof/Laws/Operations.lean ====
section
/-! SUPPORT. Everything each shared operation of the block can do, once: a claim over all instructions is a case
analysis on these lemmas and unfolds no operation. -/

namespace Sys2Proof.Machine

/-- The results the encoder raises (R81): never OK, NotInitialized, HwFailure or NotFound. -/
theorem encodeFrame_error {p : Params} {sel : FrameSel} {x0 x1 : Word} {cap : Nat} {e : ResultCode}
    (h : encodeFrame p sel x0 x1 cap = .error e) :
    e = .unsupportedProtocol ∨ e = .invalidArgument ∨ e = .bufferTooSmall := by
  simp only [encodeFrame] at h
  split at h
  · cases h; exact .inl rfl
  split at h
  · cases h; exact .inr (.inl rfl)
  split at h
  · cases h; exact .inr (.inl rfl)
  split at h
  · cases h; exact .inr (.inr rfl)
  split at h
  · cases h; exact .inr (.inr rfl)
  · cases h

/-- A frame that the encoder produces fits the capacity, and the capacity fits the buffer (R81 steps 7 and 10). -/
theorem encodeFrame_ok {p : Params} {sel : FrameSel} {x0 x1 : Word} {cap : Nat} {F : List Symbol}
    (h : encodeFrame p sel x0 x1 cap = .ok F) :
    hasEnc p sel.proto = true ∧ F = frame p sel (mask (waddr p sel) x0.toNat) (mask (wcmd p sel) x1.toNat) ∧
      F.length ≤ cap ∧ cap ≤ p.nsym := by
  simp only [encodeFrame] at h
  split at h
  · cases h
  split at h
  · cases h
  split at h
  · cases h
  split at h
  · cases h
  split at h
  · cases h
  · cases h
    exact ⟨by simp_all, rfl, by omega, by omega⟩

/-- ENCODE (R81): a result is raised with `RES0 <- 0` and nothing else, or the frame is stored. -/
theorem encodeOp_cases (p : Params) (sel : FrameSel) (s : State) :
    (∃ e, encodeFrame p sel s.opa s.opc s.opcap.toNat = .error e ∧ encodeOp p sel s = raiseNoFrame e s) ∨
    (∃ F, encodeFrame p sel s.opa s.opc s.opcap.toNat = .ok F ∧ encodeOp p sel s = raise .ok (storeFrame F s)) := by
  unfold encodeOp
  cases h : encodeFrame p sel s.opa s.opc s.opcap.toNat with
  | error e => exact .inl ⟨e, rfl, rfl⟩
  | ok F => exact .inr ⟨F, rfl, rfl⟩

/-- The repeat frame is a mark and a space, and at most a stop (R91). -/
theorem repeatFrame_length_le (p : Params) (P : Proto) : (repeatFrame p P).length ≤ 2 := by
  unfold repeatFrame frameRpt stop
  split <;> simp

/-- `FRAME(...)` (R81 step 9) of the machine in the terms of the claims. -/
theorem frame_eq_orRepeat (sel : FrameSel) (a c : Nat) :
    frame params sel a c = orRepeat sel.proto sel.rpt (dataFrame params sel a c) := by
  unfold frame orRepeat
  rfl

/-- The frames 2 to `N` of a SENDN of the machine in the terms of the claims (R136 step 5). -/
theorem repeatOf_eq_nextFrame (P : Proto) (F : List Symbol) : repeatOf params P F = nextFrame P F := by
  unfold repeatOf nextFrame orRepeat
  rw [Bool.true_and]
  rfl

/-- An illegal word (R64) raises its result and changes nothing else, or, for ENCODE, SEND and SENDN, clears `RES0` with
it; which of the two is a free value (log 12). -/
theorem raiseIllegal_cases (p : Params) (op : BitVec 4) (k : IllegalFrame) (e : ResultCode) (s : State) :
    raiseIllegal p op k e s = raise e s ∨ (isFrameOp op = true ∧ raiseIllegal p op k e s = raiseNoFrame e s) := by
  unfold raiseIllegal
  split
  · rename_i h
    exact .inr ⟨(Bool.and_eq_true_iff.1 h).1, rfl⟩
  · exact .inl rfl

/-- `raiseIllegal` in the terms of the claims: the machine's own parameters and an operation that produces a frame. -/
theorem raiseIllegal_eq_illegalWith {op : BitVec 4} (h : isFrameOp op = true) (k : IllegalFrame) (e : ResultCode)
    (s : State) : raiseIllegal params op k e s = illegalWith op k (resultCode e) s := by
  simp [raiseIllegal, illegalWith, h]

/-- The rejection of any other operation's illegal word changes `ERR` alone (R64). -/
theorem raiseIllegal_of_no_frame {op : BitVec 4} (h : isFrameOp op = false) (p : Params) (k : IllegalFrame)
    (e : ResultCode) (s : State) : raiseIllegal p op k e s = raise e s := by
  simp [raiseIllegal, raise, h]

/-- SEND and SENDN (R134, R136): an encoder result, NotInitialized, HwFailure, or the emission. -/
theorem sendWith_cases (p : Params) (sel : FrameSel) (auto : Bool) (out : List Symbol → State → State) (s : State) :
    (∃ e, sendFrame p sel auto s = .error e ∧ sendWith p sel auto out s = raiseNoFrame e s) ∨
    (s.init = false ∧ sendWith p sel auto out s = raiseNoFrame .notInitialized s) ∨
    (s.init = true ∧ p.hwOk s.draws = false ∧
      sendWith p sel auto out s = raiseNoFrame .hwFailure (hwFailed (attempt s))) ∨
    (∃ F, sendFrame p sel auto s = .ok F ∧ s.init = true ∧ p.hwOk s.draws = true ∧
      sendWith p sel auto out s =
        raise .ok (flipToggle sel.proto auto (out F (configureFor p sel.proto (attempt s))))) := by
  unfold sendWith
  cases hF : sendFrame p sel auto s with
  | error e => exact .inl ⟨e, rfl, rfl⟩
  | ok F =>
    cases hi : s.init with
    | false => exact .inr (.inl ⟨rfl, by simp⟩)
    | true =>
      cases hw : p.hwOk s.draws with
      | false => exact .inr (.inr (.inl ⟨rfl, rfl, by simp⟩))
      | true => exact .inr (.inr (.inr ⟨F, rfl, rfl, rfl, by simp⟩))

/-- INIT (R119). -/
theorem initOp_cases (p : Params) (s : State) :
    ((s.opfreq = 0 ∨ 100 < s.opduty.toNat) ∧ initOp p s = raise .invalidArgument s) ∨
    (s.opfreq ≠ 0 ∧ s.opduty.toNat ≤ 100 ∧ p.hwOk s.draws = true ∧
      initOp p s = raise .ok { configure s.opfreq (s.opduty.setWidth 7) (attempt s) with
        carrier := false, init := true, fault := false }) ∨
    (s.opfreq ≠ 0 ∧ s.opduty.toNat ≤ 100 ∧ p.hwOk s.draws = false ∧
      initOp p s = raise .hwFailure { hwFailed (attempt s) with carrier := false }) := by
  unfold initOp
  split
  · exact .inl ⟨by assumption, rfl⟩
  · rename_i h
    simp only [not_or, not_lt] at h
    cases hw : p.hwOk s.draws with
    | true => exact .inr (.inl ⟨h.1, h.2, rfl, by simp⟩)
    | false => exact .inr (.inr ⟨h.1, h.2, rfl, by simp⟩)

/-- TRANSMIT (R120), when it answers a next state. -/
theorem transmitOp_cases {p : Params} {s t : State} (h : transmitOp p s = .next t) :
    t = raise .invalidArgument s ∨ (s.init = false ∧ t = raise .notInitialized s) ∨
    (s.init = true ∧ p.hwOk s.draws = false ∧ t = raise .hwFailure (hwFailed (attempt s))) ∨
    (∃ S, s.init = true ∧ p.hwOk s.draws = true ∧ s.opfreq ≠ 0 ∧ s.opduty.toNat ≤ 100 ∧ s.oplen.toNat ≤ p.nsym ∧
      memRead s.sym 0 s.oplen.toNat = .ok S ∧
      t = raise .ok (emit S (configure s.opfreq (s.opduty.setWidth 7) (attempt s)))) := by
  unfold transmitOp at h
  split at h
  · cases h; exact .inl rfl
  · rename_i ha
    simp only [not_or, not_lt] at ha
    split at h
    · rename_i hi
      cases h; exact .inr (.inl ⟨hi, rfl⟩)
    · rename_i hi
      have hi' : s.init = true := by simpa using hi
      split at h
      · rename_i hw
        cases hm : memRead s.sym 0 s.oplen.toNat with
        | error k => rw [hm] at h; cases h
        | ok S =>
          rw [hm] at h
          cases h
          exact .inr (.inr (.inr ⟨S, hi', hw, ha.1, ha.2.1, ha.2.2, rfl, rfl⟩))
      · rename_i hw
        cases h; exact .inr (.inr (.inl ⟨hi', by simpa using hw, rfl⟩))

/-- The frames after the first of a SENDN, with the carrier off before them, in closed form (R136 step 9). -/
theorem sendRepeats_eq (gap : Word) (FR : List Symbol) (n : Nat) {s : State} (hc : s.carrier = false) :
    sendRepeats gap FR n s =
      if n = 0 then s
      else { s with
        phase := .idle
        sym := (fun m => memWrite m 0 FR)^[n] s.sym
        symLen := BitVec.ofNat 32 FR.length
        res0 := BitVec.ofNat 32 FR.length
        idx := if FR = [] then s.idx else BitVec.ofNat 32 (FR.length - 1)
        len := BitVec.ofNat 32 FR.length
        rem := if FR = [] then s.rem else 0
        iesave := s.ie
        wave := s.wave ++ (List.replicate n (spaceItems gap ++ (.idle :: waveOf s.cfreq s.cduty FR))).flatten } := by
  induction n generalizing s with
  | zero => rfl
  | succ n ih =>
    rw [sendRepeats, ih]
    · by_cases hF : FR = [] <;> cases n <;>
        simp [sendOne, emit_eq_emitted, emitted, storeFrame, dly_of_carrier_off hc, hF, hc, List.replicate_succ]
    · simp [sendOne, emit_eq_emitted, emitted, storeFrame, dly_of_carrier_off hc, hc]

/-! ## Lengths of packed frames (R112, R116) -/

theorem pairRuns_length : ∀ L : List Run, (pairRuns L).length = (L.length + 1) / 2
  | [] => rfl
  | [_] => by simp [pairRuns]
  | _ :: _ :: rest => by simp [pairRuns, pairRuns_length rest]; omega

theorem foldl_mergeRun_length_le (M R : List Run) : (R.foldl mergeRun M).length ≤ M.length + R.length := by
  induction R generalizing M with
  | nil => simp
  | cons r R ih =>
    simp only [List.foldl_cons, List.length_cons]
    refine le_trans (ih _) ?_
    have : (mergeRun M r).length ≤ M.length + 1 := by
      unfold mergeRun
      split
      · omega
      · split
        · split
          · simp
          · simp
        · simp
    omega

/-- Packing gives at most one symbol for two runs. -/
theorem pack_length_le (R : List Run) : (pack R).length ≤ (R.length + 1) / 2 := by
  rw [pack, pairRuns_length]
  have h1 : (merge R).length ≤ R.length := by simpa [merge] using foldl_mergeRun_length_le [] R
  have h2 : (dropLeadingSpace (merge R)).length ≤ (merge R).length := by
    generalize merge R = M
    cases M with
    | nil => exact le_refl _
    | cons r rest =>
      simp only [dropLeadingSpace]
      split <;> simp
  omega

@[simp] theorem bitsLsb_length (v n : Nat) : (bitsLsb v n).length = n := by simp [bitsLsb]

@[simp] theorem bitsMsb_length (v n : Nat) : (bitsMsb v n).length = n := by simp [bitsMsb]

end Sys2Proof.Machine
end

