-- ==== Sys2Proof/Laws/PerInstr.lean ====
section
/-! SUPPORT. Facts about every instruction, one lemma per constructor. `EncodesItsRow`: the word of an instruction fits
the row of spec/opcode_table.json that its constructor stands for. -/

namespace Sys2Proof.Laws.EncodesItsRow

/-- The encoded instruction fits its row of the opcode table. -/
def Statement (i : Instr) : Prop := i.row.fits (encode i) = true

theorem init : Statement .init := by unfold Statement; decide
theorem getinfo (proto : BitVec 5) : Statement (.getinfo proto) := by
  unfold Statement; revert proto; decide
theorem fromname : Statement .fromname := by unfold Statement; decide
theorem encodeNec : Statement .encodeNec := by unfold Statement; decide
theorem encodeNecRpt : Statement .encodeNecRpt := by unfold Statement; decide
theorem encodeNecExt (rpt : Bool) : Statement (.encodeNecExt rpt) := by
  unfold Statement; revert rpt; decide
theorem encodeSony12 (rpt : Bool) : Statement (.encodeSony12 rpt) := by
  unfold Statement; revert rpt; decide
theorem encodeSony15 (rpt : Bool) : Statement (.encodeSony15 rpt) := by
  unfold Statement; revert rpt; decide
theorem encodeSony20 (rpt : Bool) : Statement (.encodeSony20 rpt) := by
  unfold Statement; revert rpt; decide
theorem encodeSonyVar3 : Statement .encodeSonyVar3 := by unfold Statement; decide
theorem encodeRc5 (tgl : Bool) (rpt : Bool) : Statement (.encodeRc5 tgl rpt) := by
  unfold Statement; revert tgl rpt; decide
theorem encodeRc5X (tgl : Bool) (rpt : Bool) : Statement (.encodeRc5X tgl rpt) := by
  unfold Statement; revert tgl rpt; decide
theorem encodeRc6 (tgl : Bool) (rpt : Bool) : Statement (.encodeRc6 tgl rpt) := by
  unfold Statement; revert tgl rpt; decide
theorem encodeSamsung (rpt : Bool) : Statement (.encodeSamsung rpt) := by
  unfold Statement; revert rpt; decide
theorem encodePanasonic (rpt : Bool) : Statement (.encodePanasonic rpt) := by
  unfold Statement; revert rpt; decide
theorem encodeJvc (rpt : Bool) : Statement (.encodeJvc rpt) := by
  unfold Statement; revert rpt; decide
theorem encodeLg (rpt : Bool) : Statement (.encodeLg rpt) := by
  unfold Statement; revert rpt; decide
theorem encodeMitsubishi (rpt : Bool) : Statement (.encodeMitsubishi rpt) := by
  unfold Statement; revert rpt; decide
theorem encodeSharp (rpt : Bool) : Statement (.encodeSharp rpt) := by
  unfold Statement; revert rpt; decide
theorem encodeDish (rpt : Bool) : Statement (.encodeDish rpt) := by
  unfold Statement; revert rpt; decide
theorem encodeAiwa (rpt : Bool) : Statement (.encodeAiwa rpt) := by
  unfold Statement; revert rpt; decide
theorem encodeDenon (rpt : Bool) : Statement (.encodeDenon rpt) := by
  unfold Statement; revert rpt; decide
theorem encodeKaseikyo (rpt : Bool) : Statement (.encodeKaseikyo rpt) := by
  unfold Statement; revert rpt; decide
theorem encodeWhynter (rpt : Bool) : Statement (.encodeWhynter rpt) := by
  unfold Statement; revert rpt; decide
theorem encodeCoolix (rpt : Bool) : Statement (.encodeCoolix rpt) := by
  unfold Statement; revert rpt; decide
theorem encodeGeneric (rpt : Bool) : Statement (.encodeGeneric rpt) := by
  unfold Statement; revert rpt; decide
theorem transmit : Statement .transmit := by unfold Statement; decide
theorem sendNec : Statement .sendNec := by unfold Statement; decide
theorem sendNecRpt : Statement .sendNecRpt := by unfold Statement; decide
theorem sendNecExt (rpt : Bool) : Statement (.sendNecExt rpt) := by
  unfold Statement; revert rpt; decide
theorem sendSony12 (rpt : Bool) : Statement (.sendSony12 rpt) := by
  unfold Statement; revert rpt; decide
theorem sendSony15 (rpt : Bool) : Statement (.sendSony15 rpt) := by
  unfold Statement; revert rpt; decide
theorem sendSony20 (rpt : Bool) : Statement (.sendSony20 rpt) := by
  unfold Statement; revert rpt; decide
theorem sendSonyVar3 : Statement .sendSonyVar3 := by unfold Statement; decide
theorem sendRc5 (tgl : Bool) (auto : Bool) (rpt : Bool) : Statement (.sendRc5 tgl auto rpt) := by
  unfold Statement; revert tgl auto rpt; decide
theorem sendRc5X (tgl : Bool) (auto : Bool) (rpt : Bool) : Statement (.sendRc5X tgl auto rpt) := by
  unfold Statement; revert tgl auto rpt; decide
theorem sendRc6 (tgl : Bool) (auto : Bool) (rpt : Bool) : Statement (.sendRc6 tgl auto rpt) := by
  unfold Statement; revert tgl auto rpt; decide
theorem sendSamsung (rpt : Bool) : Statement (.sendSamsung rpt) := by
  unfold Statement; revert rpt; decide
theorem sendPanasonic (rpt : Bool) : Statement (.sendPanasonic rpt) := by
  unfold Statement; revert rpt; decide
theorem sendJvc (rpt : Bool) : Statement (.sendJvc rpt) := by
  unfold Statement; revert rpt; decide
theorem sendLg (rpt : Bool) : Statement (.sendLg rpt) := by
  unfold Statement; revert rpt; decide
theorem sendMitsubishi (rpt : Bool) : Statement (.sendMitsubishi rpt) := by
  unfold Statement; revert rpt; decide
theorem sendSharp (rpt : Bool) : Statement (.sendSharp rpt) := by
  unfold Statement; revert rpt; decide
theorem sendDish (rpt : Bool) : Statement (.sendDish rpt) := by
  unfold Statement; revert rpt; decide
theorem sendAiwa (rpt : Bool) : Statement (.sendAiwa rpt) := by
  unfold Statement; revert rpt; decide
theorem sendDenon (rpt : Bool) : Statement (.sendDenon rpt) := by
  unfold Statement; revert rpt; decide
theorem sendKaseikyo (rpt : Bool) : Statement (.sendKaseikyo rpt) := by
  unfold Statement; revert rpt; decide
theorem sendWhynter (rpt : Bool) : Statement (.sendWhynter rpt) := by
  unfold Statement; revert rpt; decide
theorem sendCoolix (rpt : Bool) : Statement (.sendCoolix rpt) := by
  unfold Statement; revert rpt; decide
theorem sendGeneric (rpt : Bool) : Statement (.sendGeneric rpt) := by
  unfold Statement; revert rpt; decide
theorem rsttglRc5 : Statement .rsttglRc5 := by unfold Statement; decide
theorem rsttglRc6 : Statement .rsttglRc6 := by unfold Statement; decide
theorem sendnNec : Statement .sendnNec := by unfold Statement; decide
theorem sendnNecRpt : Statement .sendnNecRpt := by unfold Statement; decide
theorem sendnNecExt (rpt : Bool) : Statement (.sendnNecExt rpt) := by
  unfold Statement; revert rpt; decide
theorem sendnSony12 (rpt : Bool) : Statement (.sendnSony12 rpt) := by
  unfold Statement; revert rpt; decide
theorem sendnSony15 (rpt : Bool) : Statement (.sendnSony15 rpt) := by
  unfold Statement; revert rpt; decide
theorem sendnSony20 (rpt : Bool) : Statement (.sendnSony20 rpt) := by
  unfold Statement; revert rpt; decide
theorem sendnSonyVar3 : Statement .sendnSonyVar3 := by unfold Statement; decide
theorem sendnRc5 (tgl : Bool) (auto : Bool) (rpt : Bool) : Statement (.sendnRc5 tgl auto rpt) := by
  unfold Statement; revert tgl auto rpt; decide
theorem sendnRc5X (tgl : Bool) (auto : Bool) (rpt : Bool) : Statement (.sendnRc5X tgl auto rpt) := by
  unfold Statement; revert tgl auto rpt; decide
theorem sendnRc6 (tgl : Bool) (auto : Bool) (rpt : Bool) : Statement (.sendnRc6 tgl auto rpt) := by
  unfold Statement; revert tgl auto rpt; decide
theorem sendnSamsung (rpt : Bool) : Statement (.sendnSamsung rpt) := by
  unfold Statement; revert rpt; decide
theorem sendnPanasonic (rpt : Bool) : Statement (.sendnPanasonic rpt) := by
  unfold Statement; revert rpt; decide
theorem sendnJvc (rpt : Bool) : Statement (.sendnJvc rpt) := by
  unfold Statement; revert rpt; decide
theorem sendnLg (rpt : Bool) : Statement (.sendnLg rpt) := by
  unfold Statement; revert rpt; decide
theorem sendnMitsubishi (rpt : Bool) : Statement (.sendnMitsubishi rpt) := by
  unfold Statement; revert rpt; decide
theorem sendnSharp (rpt : Bool) : Statement (.sendnSharp rpt) := by
  unfold Statement; revert rpt; decide
theorem sendnDish (rpt : Bool) : Statement (.sendnDish rpt) := by
  unfold Statement; revert rpt; decide
theorem sendnAiwa (rpt : Bool) : Statement (.sendnAiwa rpt) := by
  unfold Statement; revert rpt; decide
theorem sendnDenon (rpt : Bool) : Statement (.sendnDenon rpt) := by
  unfold Statement; revert rpt; decide
theorem sendnKaseikyo (rpt : Bool) : Statement (.sendnKaseikyo rpt) := by
  unfold Statement; revert rpt; decide
theorem sendnWhynter (rpt : Bool) : Statement (.sendnWhynter rpt) := by
  unfold Statement; revert rpt; decide
theorem sendnCoolix (rpt : Bool) : Statement (.sendnCoolix rpt) := by
  unfold Statement; revert rpt; decide
theorem sendnGeneric (rpt : Bool) : Statement (.sendnGeneric rpt) := by
  unfold Statement; revert rpt; decide
theorem illegalOp0 : Statement .illegalOp0 := by unfold Statement; decide
theorem illegalOp9 : Statement .illegalOp9 := by unfold Statement; decide
theorem illegalOp10 : Statement .illegalOp10 := by unfold Statement; decide
theorem illegalOp11 : Statement .illegalOp11 := by unfold Statement; decide
theorem illegalOp12 : Statement .illegalOp12 := by unfold Statement; decide
theorem illegalOp13 : Statement .illegalOp13 := by unfold Statement; decide
theorem illegalOp14 : Statement .illegalOp14 := by unfold Statement; decide
theorem illegalOp15 : Statement .illegalOp15 := by unfold Statement; decide
theorem cen (duty : Duty) : Statement (.cen duty) := by
  unfold Statement; revert duty; decide
theorem cdis : Statement .cdis := by unfold Statement; decide
theorem dly (us : Word) : Statement (.dly us) := by
  show decide (dlyWord us &&& 0x300000000 = 0x300000000) = true
  rw [decide_eq_true_eq, dlyWord]
  ext i hi
  simp only [BitVec.getElem_and, BitVec.getElem_append]
  interval_cases i <;> simp

end Sys2Proof.Laws.EncodesItsRow
end

