-- ==== Sys2Proof/Tests/Slice0.lean ====
section
/-! SUPPORT. The tests. Expected results are the examples and vectors of 95_test_vectors.md, by their ids (E1, M1, T4,
P-13, ...), with its fixture `FIX` and catalog `CAT_FIX`; the words are written out from the layouts of
30_encoding.md. The last part shows, for every obligation with hypotheses, a state and operands that meet them. -/

open Sys2Proof Sys2Proof.Machine

namespace Sys2Proof.Tests

/-! ## The fixture of 95_test_vectors.md -/

/-- One row of `CAT_FIX`. -/
def catRow (hm hs om os zm zs : Word) (st : Option Word) (f : Word) (d : Duty) : TimingSpec :=
  ⟨hm, hs, om, os, zm, zs, st, f, d⟩

/-- `CAT_FIX`; any legal row for the nine protocols without a frame rule. -/
def catFix : Proto → TimingSpec
  | .nec => catRow 90 45 6 17 6 5 (some 7) 38000 33
  | .necExt => catRow 90 45 6 17 6 5 (some 7) 38000 33
  | .sony => catRow 24 6 12 6 7 6 none 40000 33
  | .rc5 => catRow 0 0 9 9 9 9 none 36000 25
  | .rc6 => catRow 27 9 4 4 4 4 none 36000 25
  | .sharp => catRow 0 0 3 17 3 7 (some 3) 38000 33
  | .panasonic => catRow 35 17 4 13 4 5 none 37000 33
  | .kaseikyo => catRow 35 17 4 13 4 5 none 37000 33
  | .coolix => catRow 47 44 5 16 5 6 (some 5) 38000 33
  | _ => catRow 1 1 1 2 1 1 none 1 1

/-- The default names that the lookup vectors use, as bytes. -/
def nameFix : Proto → List Byte
  | .nec => [0x4E, 0x45, 0x43]
  | .necExt => [0x4E, 0x45, 0x43, 0x5F, 0x45, 0x58, 0x54]
  | .rc6 => [0x52, 0x43, 0x36]
  | .generic => [0x47, 0x45, 0x4E, 0x45, 0x52, 0x49, 0x43]
  | P => [0x23, BitVec.ofNat 8 (protoCode P).toNat]

/-- `FIX`, with the answer `hw_ok` as an argument. -/
def fixWith (hw : Bool) : Params where
  nsym := 64
  nameMax := 32
  strict := true
  name := nameFix
  openInfo := fun P => ⟨0, 0, 0, P = .necExt, []⟩
  timing := catFix
  ext := fun P => if P = .coolix then ⟨0, 0, 52⟩ else ⟨90, 22, 0⟩
  encExt := fun _ => none
  rptCount := fun P => if P = .sony then 3 else if P = .nec then 2 else 1
  rptGapUs := fun P => if P = .sony then 250 else 400
  jitUs := 0
  hwOk := fun _ => hw
  illegalClearsRes0 := fun _ _ => true

/-- `FIX`, every draw `hw_ok = 1`. -/
abbrev fix : Params := fixWith true

/-- `FIX` is a legal choice of the parameters (R6, R79, R87, and R78 for the header of RC6). -/
theorem test_fix_legal : ParamsLegal fix where
  nsym_ge := by decide
  nsym_lt := by decide
  nameMax_ge := by decide
  nameMax_lt := by decide
  timing := fun P => by
    cases P <;>
      exact ⟨by decide, by decide, by decide, by decide, by intro h; cases h <;> decide, by intro h; cases h <;> decide⟩
  encExt := fun _ _ h => by cases h
  rptCount := fun P => by cases P <;> decide

/-- `CAT_FIX` agrees with the source's description of every class (R77, R78). -/
theorem test_fix_class_legal : CatalogClassLegal fix := by
  intro P
  cases P <;> first
    | exact trivial
    | (show PulseDistance _; decide)
    | (show BitSymbolsDiffer _; decide)
    | (show PulseWidth _; decide)
    | (show EqualHalfBits _; decide)

/-- R76, R77: who is in which class, and that DISH is held to two different symbols only. -/
theorem test_classes :
    classOf .necExt = some .pulseDistance ∧ classOf .generic = none ∧ classOf .sony = some .pulseWidth ∧
    isManchester .rc6 = true ∧ isManchester .sharp = false ∧
    ClassLegal .dish (catRow 0 0 3 7 5 7 none 1 1) ∧ ¬ ClassLegal .nec (catRow 0 0 3 7 5 7 none 1 1) :=
  ⟨rfl, rfl, rfl, rfl, rfl, show BitSymbolsDiffer _ by decide, show ¬ PulseDistance _ by decide⟩

/-- A block as the vectors start with: configured at 38000 Hz and 33 percent, `IE = 1`. -/
def ready : State := { State.reset with init := true, cfreq := 38000, cduty := 33 }

/-- The symbols `n` times `v`. -/
abbrev times (n : Nat) (v : Sys2Proof.Symbol) : List Sys2Proof.Symbol := List.replicate n v

/-! ## Well-formedness -/

/-- R126: a CEN of 101 percent is refused, one of 100 is not. -/
theorem test_wellFormed_refuses_duty_101 : ¬ WellFormed (.cen 101) ∧ WellFormed (.cen 100) := by decide

/-! ## Decoding: a word for every constructor, written out from the layouts of R52, R54, R55, R60 -/

theorem test_decode_plain_operations :
    decode (.cw 0x1F900000) = .ok .init ∧
    decode (.cw 0x29000000) = .ok (.getinfo 18) ∧
    decode (.cw 0x22040000) = .ok (.getinfo 4) ∧
    decode (.cw 0x31080000) = .ok .fromname ∧
    decode (.cw 0x58820000) = .ok .transmit ∧
    decode (.cw 0x71880000) = .ok .rsttglRc5 ∧
    decode (.cw 0x72000000) = .ok .rsttglRc6 := by decide

theorem test_decode_encode :
    decode (.cw 0x407A0000) = .ok .encodeNec ∧
    decode (.cw 0x40040000) = .ok .encodeNecRpt ∧
    decode (.cw 0x40840000) = .ok (.encodeNecExt true) ∧
    decode (.cw 0x41140000) = .ok (.encodeSony12 true) ∧
    decode (.cw 0x41200000) = .ok (.encodeSony15 false) ∧
    decode (.cw 0x41440000) = .ok (.encodeSony20 true) ∧
    decode (.cw 0x41640005) = .ok .encodeSonyVar3 ∧
    decode (.cw 0x41980000) = .ok (.encodeRc5 true false) ∧
    decode (.cw 0x41860000) = .ok (.encodeRc5X false true) ∧
    decode (.cw 0x42120000) = .ok (.encodeRc6 true false) ∧
    decode (.cw 0x42840000) = .ok (.encodeSamsung true) ∧
    decode (.cw 0x43080000) = .ok (.encodePanasonic false) ∧
    decode (.cw 0x43840000) = .ok (.encodeJvc true) ∧
    decode (.cw 0x44080000) = .ok (.encodeLg false) ∧
    decode (.cw 0x44840000) = .ok (.encodeMitsubishi true) ∧
    decode (.cw 0x45080000) = .ok (.encodeSharp false) ∧
    decode (.cw 0x45840000) = .ok (.encodeDish true) ∧
    decode (.cw 0x46080000) = .ok (.encodeAiwa false) ∧
    decode (.cw 0x46840000) = .ok (.encodeDenon true) ∧
    decode (.cw 0x47080000) = .ok (.encodeKaseikyo false) ∧
    decode (.cw 0x47840000) = .ok (.encodeWhynter true) ∧
    decode (.cw 0x48080000) = .ok (.encodeCoolix false) ∧
    decode (.cw 0x48840000) = .ok (.encodeGeneric true) := by decide

theorem test_decode_send :
    decode (.cw 0x607A0000) = .ok .sendNec ∧
    decode (.cw 0x60040000) = .ok .sendNecRpt ∧
    decode (.cw 0x60840000) = .ok (.sendNecExt true) ∧
    decode (.cw 0x61140000) = .ok (.sendSony12 true) ∧
    decode (.cw 0x61200000) = .ok (.sendSony15 false) ∧
    decode (.cw 0x61440000) = .ok (.sendSony20 true) ∧
    decode (.cw 0x61640005) = .ok .sendSonyVar3 ∧
    decode (.cw 0x61900000) = .ok (.sendRc5 true false false) ∧
    decode (.cw 0x618E0000) = .ok (.sendRc5X false true true) ∧
    decode (.cw 0x620A0000) = .ok (.sendRc6 false true false) ∧
    decode (.cw 0x62840000) = .ok (.sendSamsung true) ∧
    decode (.cw 0x63080000) = .ok (.sendPanasonic false) ∧
    decode (.cw 0x63840000) = .ok (.sendJvc true) ∧
    decode (.cw 0x64080000) = .ok (.sendLg false) ∧
    decode (.cw 0x64840000) = .ok (.sendMitsubishi true) ∧
    decode (.cw 0x65080000) = .ok (.sendSharp false) ∧
    decode (.cw 0x65840000) = .ok (.sendDish true) ∧
    decode (.cw 0x66080000) = .ok (.sendAiwa false) ∧
    decode (.cw 0x66840000) = .ok (.sendDenon true) ∧
    decode (.cw 0x67080000) = .ok (.sendKaseikyo false) ∧
    decode (.cw 0x67840000) = .ok (.sendWhynter true) ∧
    decode (.cw 0x68080000) = .ok (.sendCoolix false) ∧
    decode (.cw 0x68840000) = .ok (.sendGeneric true) := by decide

theorem test_decode_sendn :
    decode (.cw 0x807A0000) = .ok .sendnNec ∧
    decode (.cw 0x80040000) = .ok .sendnNecRpt ∧
    decode (.cw 0x80840000) = .ok (.sendnNecExt true) ∧
    decode (.cw 0x81140000) = .ok (.sendnSony12 true) ∧
    decode (.cw 0x81200000) = .ok (.sendnSony15 false) ∧
    decode (.cw 0x81440000) = .ok (.sendnSony20 true) ∧
    decode (.cw 0x81640005) = .ok .sendnSonyVar3 ∧
    decode (.cw 0x81900000) = .ok (.sendnRc5 true false false) ∧
    decode (.cw 0x818E0000) = .ok (.sendnRc5X false true true) ∧
    decode (.cw 0x820A0000) = .ok (.sendnRc6 false true false) ∧
    decode (.cw 0x82840000) = .ok (.sendnSamsung true) ∧
    decode (.cw 0x83080000) = .ok (.sendnPanasonic false) ∧
    decode (.cw 0x83840000) = .ok (.sendnJvc true) ∧
    decode (.cw 0x84080000) = .ok (.sendnLg false) ∧
    decode (.cw 0x84840000) = .ok (.sendnMitsubishi true) ∧
    decode (.cw 0x85080000) = .ok (.sendnSharp false) ∧
    decode (.cw 0x85840000) = .ok (.sendnDish true) ∧
    decode (.cw 0x86080000) = .ok (.sendnAiwa false) ∧
    decode (.cw 0x86840000) = .ok (.sendnDenon true) ∧
    decode (.cw 0x87080000) = .ok (.sendnKaseikyo false) ∧
    decode (.cw 0x87840000) = .ok (.sendnWhynter true) ∧
    decode (.cw 0x88080000) = .ok (.sendnCoolix false) ∧
    decode (.cw 0x88840000) = .ok (.sendnGeneric true) := by decide

theorem test_decode_reserved_operation_codes :
    decode (.cw 0x800001) = .ok .illegalOp0 ∧
    decode (.cw 0x94800009) = .ok .illegalOp9 ∧
    decode (.cw 0xA500000A) = .ok .illegalOp10 ∧
    decode (.cw 0xB580000B) = .ok .illegalOp11 ∧
    decode (.cw 0xC600000C) = .ok .illegalOp12 ∧
    decode (.cw 0xD680000D) = .ok .illegalOp13 ∧
    decode (.cw 0xE700000E) = .ok .illegalOp14 ∧
    decode (.cw 0xF780000F) = .ok .illegalOp15 := by decide

theorem test_decode_micro_operations :
    decode (.uw 0x100000021) = .ok (.cen 33) ∧
    decode (.uw 0x10000007F) = .ok (.cen 127) ∧
    decode (.uw 0x200000000) = .ok .cdis ∧
    decode (.uw 0x3FFFFFFFF) = .ok (.dly 0xFFFFFFFF) ∧
    decode (.uw 0x30000005A) = .ok (.dly 90) := by decide

/-- R64: the words that match no row, and each of the micro-operation words that is none. -/
theorem test_decode_rejects :
    decode (.cw 0x10000001) = .error (.reservedBits 1) ∧
    decode (.cw 0x49000000) = .error (.noSuchProtocol 4 18) ∧
    decode (.cw 0x6F800000) = .error (.noSuchProtocol 6 31) ∧
    decode (.cw 0x89000001) = .error (.reservedBits 8) ∧
    decode (.cw 0x70000000) = .error (.noToggleBit 0) ∧
    decode (.cw 0x79000000) = .error (.noToggleBit 18) ∧
    decode (.uw 0x5) = .error .microNone ∧
    decode (.uw 0x100000080) = .error (.microOperand 1) ∧
    decode (.uw 0x200000001) = .error (.microOperand 2) := by decide

/-- The bits of a table word, numbered as the table numbers them; a micro-operation word has 34. -/
theorem test_decode_table_word :
    decodeTableWord 32 0x61880000 = some (.sendRc5 false true false) ∧
    decodeTableWord 40 0x30000005A = some (.dly 90) ∧ decodeTableWord 34 0x200000000 = some .cdis ∧
    decodeTableWord 32 0x40000001 = none := by decide

/-! ## Reset and memory -/

theorem test_reset_memory_wf : Memory.wf State.reset.sym = true := by decide

/-- R26, R36: a write of two entries, and one written again. -/
theorem test_memWrite_then_read :
    memRead (memWrite (symSet [] 1 ⟨1, 2⟩) 0 [⟨90, 45⟩, ⟨6, 0⟩]) 0 2 = .ok [⟨90, 45⟩, ⟨6, 0⟩] ∧
    memRead (symSet [] 0 ⟨90, 45⟩) 0 2 = .error 1 := by decide

/-! ## Registry (95_test_vectors 3.2) -/

/-- L2, L3: COOLIX has no address field; code 18 and 31 are NotFound. -/
theorem test_L2_L3_getinfo :
    (getinfoOp fix 16 State.reset).resinfo.addressBits = 0 ∧
    (getinfoOp fix 16 State.reset).resinfo.commandBits = 24 ∧
    (getinfoOp fix 18 State.reset).err = 6 ∧ (getinfoOp fix 31 State.reset).resinfo = blankInfo := by decide

/-- L5, L6, L8 (nec, Rc6, nec_ext), and the empty name and `NEC ` with a space of L9. -/
theorem test_L5_L6_L8_L9_fromname :
    protoFromName fix [0x6E, 0x65, 0x63] = .nec ∧ protoFromName fix [0x52, 0x63, 0x36] = .rc6 ∧
    protoFromName fix [0x6E, 0x65, 0x63, 0x5F, 0x65, 0x78, 0x74] = .necExt ∧
    protoFromName fix [] = .generic ∧ protoFromName fix [0x4E, 0x45, 0x43, 0x20] = .generic := by decide

/-! ## Pulse-coded frames (95_test_vectors 3.3) -/

/-- The bit list of a string of 0 and 1 digits. -/
def bits (s : String) : List Bool := (s.toList.filter fun c => c != ' ').map fun c => c = '1'

/-- E2: NEC, address 0x04, command 0x08. -/
theorem test_E2_nec :
    necBits 0x04 0x08 = bits "00100000 11011111 00010000 11101111" ∧
    dur (frameNec (catFix .nec) 0x04 0x08) = 686 := by decide

/-- E1: NEC of 0 and 0, symbol by symbol. -/
theorem test_E1_nec :
    encodeFrame fix { proto := .nec } 0 0 64 =
      .ok ([⟨90, 45⟩] ++ times 8 ⟨6, 5⟩ ++ times 8 ⟨6, 17⟩ ++ times 8 ⟨6, 5⟩ ++ times 8 ⟨6, 17⟩ ++ [⟨7, 0⟩]) := by
  decide

/-- E4, E23: the NEC repeat frame, and its capacity check against 34. -/
theorem test_E4_E23_nec_repeat :
    encodeFrame fix { proto := .nec, rpt := true } 0 0 34 = .ok [⟨90, 22⟩, ⟨7, 0⟩] ∧
    encodeFrame fix { proto := .nec, rpt := true } 0 0 2 = .error .bufferTooSmall := by decide

/-- E5: NEC Extended. -/
theorem test_E5_necExt :
    necExtBits 0x1234 0x56 = bits "0010110001001000 01101010 10010101" ∧
    dur (frameNecExt (catFix .necExt) 0x1234 0x56) = 650 := by decide

/-- E6, E7, E9: the three Sony variants. -/
theorem test_E6_E7_E9_sony :
    sonyBits 5 1 21 = bits "1010100 10000" ∧ sonyBits 8 0x81 21 = bits "1010100 10000001" ∧
    sonyBits 13 5281 21 = bits "1010100 10000 10100101" ∧ dur (frameSony (catFix .sony) 5 1 21) = 206 := by decide

/-- S4: the 20-bit frame of a 5-bit device begins with the bits of the 12-bit frame. -/
theorem test_S4_sony : sonyBits 13 1 21 = sonyBits 5 1 21 ++ bits "00000000" := by decide

/-- E24: `rpt` is ignored for a protocol without a repeat frame. -/
theorem test_E24_rpt_ignored :
    encodeFrame fix { proto := .sony, rpt := true } 1 21 64 = encodeFrame fix { proto := .sony } 1 21 64 := by decide

/-- R91: the repeat frame of SONY has 2 symbols when the catalog holds a stop and 1 when it holds none; its data frame
reads no stop (R86). -/
theorem test_repeat_stop :
    repeatFrame { fix with timing := fun _ => catFix .nec } .sony = [⟨90, 22⟩, ⟨7, 0⟩] ∧
    repeatFrame fix .sony = [⟨90, 22⟩] ∧
    frameSony (catFix .nec) 5 1 21 = frameSony { catFix .nec with stopBitUs := none } 5 1 21 := by decide

/-- E10, E10b: Sharp, the check bit. -/
theorem test_E10_sharp :
    frameSharp (catFix .sharp) 0x11 0xA2 =
      bitSymbols (catFix .sharp) (bits "10001 10100010 0 1") ++ [⟨3, 0⟩] ∧
    frameSharp (catFix .sharp) 0x1F 0xFF = times 13 ⟨3, 17⟩ ++ [⟨3, 7⟩, ⟨3, 17⟩, ⟨3, 0⟩] := by decide

/-- E11: Panasonic; Kaseikyo gives the same frame. -/
theorem test_E11_panasonic :
    panasonicBits 0x4004 0x0100BCBD = bits "0010000000000010 10111101 00111101 00000000 10000000" ∧
    dur (framePanasonic (catFix .panasonic) 0x4004 0x0100BCBD) = 596 ∧
    frameKaseikyo (catFix .kaseikyo) 0x4004 0x0100BCBD = framePanasonic (catFix .panasonic) 0x4004 0x0100BCBD := by
  decide

/-- E11b: Coolix, sent twice with the footer between. -/
theorem test_E11b_coolix :
    bitsLsb 0xB27BE0 24 = bits "00000111 11011110 01001101" ∧
    dur (frameCoolix (catFix .coolix) (fix.ext .coolix) 0xB27BE0) = 1032 ∧
    (frameCoolix (catFix .coolix) (fix.ext .coolix) 0xB27BE0)[25]? = some ⟨5, 52⟩ := by decide

/-- E12, E13, E17: one below the minimum, the minimum, more than NSYM. -/
theorem test_E12_E13_E17_capacity :
    encodeFrame fix { proto := .nec } 0 0 33 = .error .bufferTooSmall ∧
    (encodeFrame fix { proto := .nec } 0 0 34).isOk = true ∧
    encodeFrame fix { proto := .nec } 0 0 65 = .error .invalidArgument := by decide

/-- E14, E16, E15: out-of-width operands under both policies; the width is checked before the capacity. -/
theorem test_E14_E15_E16_width :
    encodeFrame fix { proto := .nec } 0x100 0 64 = .error .invalidArgument ∧
    encodeFrame fix { proto := .nec } 0x100 0 0 = .error .invalidArgument ∧
    encodeFrame { fix with strict := false } { proto := .nec } 0x104 0x108 64 =
      encodeFrame fix { proto := .nec } 0x04 0x08 64 := by decide

/-- E18, E22: no frame rule, whatever the operands; Coolix has no address. -/
theorem test_E18_E22 :
    encodeFrame fix { proto := .samsung } 0xFFFFFFFF 0 0 = .error .unsupportedProtocol ∧
    encodeFrame fix { proto := .coolix } 1 0 64 = .error .invalidArgument := by decide

/-- E12: a failed ENCODE clears RES0 and leaves SYM and SYMLEN. -/
theorem test_E12_encodeOp_failure :
    encodeOp fix { proto := .nec } { ready with opcap := 33, res0 := 9, symLen := 1, sym := [(0, ⟨1, 1⟩)] } =
      { ready with opcap := 33, res0 := 0, symLen := 1, sym := [(0, ⟨1, 1⟩)], err := 3 } := by decide

/-! ## Manchester frames (95_test_vectors 3.4) -/

/-- M1: RC5, address 5, command 10, toggle 1. -/
theorem test_M1_rc5 :
    rc5Bits 5 10 true = bits "11100101001010" ∧
    frameRc5 (catFix .rc5) 5 10 true =
      [⟨9, 9⟩, ⟨9, 9⟩, ⟨18, 9⟩, ⟨9, 18⟩, ⟨18, 18⟩, ⟨18, 9⟩, ⟨9, 18⟩, ⟨18, 18⟩, ⟨18, 9⟩] := by decide

/-- M3: the example of the source whose narrative does not hold. -/
theorem test_M3_rc5 :
    frameRc5 (catFix .rc5) 31 63 false = [⟨9, 9⟩, ⟨18, 18⟩] ++ times 10 ⟨9, 9⟩ ++ [⟨9, 0⟩] := by decide

/-- M6: extended RC5, command 74: the second start bit is the inverted bit 6. -/
theorem test_M6_rc5x :
    rc5xBits 5 74 false = bits "10000101001010" ∧
    frameRc5x (catFix .rc5) 5 74 false =
      [⟨18, 9⟩, ⟨9, 9⟩, ⟨9, 9⟩, ⟨9, 18⟩, ⟨18, 18⟩, ⟨18, 9⟩, ⟨9, 18⟩, ⟨18, 18⟩, ⟨18, 9⟩] := by decide

/-- M9: RC6 with toggle 1. -/
theorem test_M9_rc6 :
    frameRc6 (catFix .rc6) 0x04 0x0C true =
      [⟨27, 9⟩, ⟨4, 8⟩, ⟨4, 4⟩, ⟨4, 4⟩, ⟨12, 12⟩] ++ times 4 ⟨4, 4⟩ ++ [⟨8, 8⟩] ++ times 5 ⟨4, 4⟩ ++
        [⟨8, 4⟩, ⟨4, 8⟩, ⟨4, 4⟩, ⟨4, 0⟩] := by decide

/-- M10: the same with toggle 0. -/
theorem test_M10_rc6 :
    frameRc6 (catFix .rc6) 0x04 0x0C false =
      [⟨27, 9⟩, ⟨4, 8⟩, ⟨4, 4⟩, ⟨4, 4⟩, ⟨4, 8⟩, ⟨8, 4⟩] ++ times 4 ⟨4, 4⟩ ++ [⟨8, 8⟩] ++ times 5 ⟨4, 4⟩ ++
        [⟨8, 4⟩, ⟨4, 8⟩, ⟨4, 4⟩, ⟨4, 0⟩] := by decide

/-- M13, M14: a capacity of 20 passes the minimum; whether the frame fits depends on the data. -/
theorem test_M13_M14_rc6_capacity :
    encodeFrame fix { proto := .rc6 } 0 0 21 = .error .bufferTooSmall ∧
    (encodeFrame fix { proto := .rc6 } 0x04 0x0C 20).isOk = true := by decide

/-! ## Carrier (95_test_vectors 3.5) -/

/-- T1, T3: INIT from reset, with hw_ok = 1 and with hw_ok = 0. -/
theorem test_T1_T3_init :
    initOp fix { State.reset with opfreq := 38000, opduty := 33 } =
      { State.reset with opfreq := 38000, opduty := 33, init := true, cfreq := 38000, cduty := 33, draws := 1 } ∧
    initOp (fixWith false) { ready with opfreq := 40000, opduty := 33 } =
      { ready with opfreq := 40000, opduty := 33, init := false, fault := true, err := 5, draws := 1 } := by decide

/-- T2: wrong operands leave an initialised block as it is. -/
theorem test_T2_init :
    exec .init { ready with opduty := 101, opfreq := 38000 } =
      .next { ready with opduty := 101, opfreq := 38000, err := 2 } := rfl

/-- The symbols of T4 in SYM, and the operands of `TRANSMIT n=2, f=38000, d=33`. -/
def ready4 : State :=
  { ready with oplen := 2, opfreq := 38000, opduty := 33, sym := [(0, ⟨90, 45⟩), (1, ⟨6, 0⟩)], wave := [.off 1] }

/-- The next state of an outcome; the reset state where there is none. -/
def after (o : Host.Outcome State Fault Refusal) : State :=
  match o with
  | .next t => t
  | _ => State.reset

/-- T4: the waveform, the carrier and the interrupt enable after TRANSMIT. -/
theorem test_T4_transmit :
    (after (transmitOp fix ready4)).wave = [.off 1, .idle, .on 38000 33 90, .off 45, .on 38000 33 6] ∧
    (after (transmitOp fix ready4)).carrier = false ∧ (after (transmitOp fix ready4)).ie = true ∧
    (after (transmitOp fix ready4)).phase = .idle ∧ (after (transmitOp fix ready4)).err = 0 := by decide

/-- T5, T13: an empty sequence leaves an Idle; IE = 0 stays 0. -/
theorem test_T5_T13_transmit :
    (after (transmitOp fix { ready4 with oplen := 0 })).wave = [.off 1, .idle] ∧
    (after (transmitOp fix { ready4 with ie := false })).ie = false := by decide

/-- T8: the arguments are checked before INIT. -/
theorem test_T8_transmit :
    exec .transmit { ready4 with init := false, opfreq := 0 } =
      .next { ready4 with init := false, opfreq := 0, err := 2 } := rfl

/-- T11: a zero space merges two marks under norm. -/
theorem test_T11_norm :
    waveOf 38000 33 [⟨5, 0⟩, ⟨7, 3⟩] = [.on 38000 33 5, .on 38000 33 7, .off 3] ∧
    norm (waveOf 38000 33 [⟨5, 0⟩, ⟨7, 3⟩]) = [.on 38000 33 12, .off 3] := by decide

/-- T12: an entry never written is a model fault. -/
theorem test_T12_transmit : transmitOp fix { ready4 with sym := [(0, ⟨90, 45⟩)] } = .fault (.unwrittenSymbol 1) := by
  rfl

/-- T15: the micro-operations. -/
theorem test_T15_micro_operations :
    exec (.cen 33) ready = .next { ready with carrier := true } ∧
    exec (.dly 90) { ready with carrier := true } =
      .next { ready with carrier := true, wave := [.on 38000 33 90] } ∧
    exec .cdis { ready with carrier := true } = .next ready ∧
    exec (.dly 45) ready = .next { ready with wave := [.off 45] } ∧
    exec (.dly 0) ready = .next ready := ⟨rfl, rfl, rfl, rfl, rfl⟩

/-- The small-step trace of T4, its first step: the carrier goes on in (MARK, 0). -/
theorem test_T4_first_small_step :
    (after (step (startSeq [⟨90, 45⟩, ⟨6, 0⟩] (critEnter ready4)))).carrier = true ∧
    (after (step (startSeq [⟨90, 45⟩, ⟨6, 0⟩] (critEnter ready4)))).phase = .mark := by decide

/-! ## Session (95_test_vectors 3.6) -/

/-- The operands of `SEND.RC5 a=5, c=10`. -/
def readyRc5 : State := { ready with opa := 5, opc := 10 }

/-- P-2: the auto-toggle send of toggle 0. -/
theorem test_P2_send_rc5_auto :
    (sendOp fix { proto := .rc5 } true readyRc5).toggleRc5 = true ∧
    (sendOp fix { proto := .rc5 } true readyRc5).res0 = 9 ∧
    (sendOp fix { proto := .rc5 } true readyRc5).cfreq = 36000 ∧
    symGet (sendOp fix { proto := .rc5 } true readyRc5).sym 1 = some ⟨18, 9⟩ := by decide

/-- P-3: the same again carries toggle 1 and flips back. -/
theorem test_P3_send_rc5_auto :
    (sendOp fix { proto := .rc5 } true { readyRc5 with toggleRc5 := true }).toggleRc5 = false ∧
    symGet (sendOp fix { proto := .rc5 } true { readyRc5 with toggleRc5 := true }).sym 1 = some ⟨9, 9⟩ := by decide

/-- P-5: an uninitialised block keeps its toggle. -/
theorem test_P5_send_rc5 :
    sendOp fix { proto := .rc5 } true { readyRc5 with init := false } =
      { readyRc5 with init := false, err := 1 } := by decide

/-- P-6: a failed configuration. -/
theorem test_P6_send_rc5 :
    sendOp (fixWith false) { proto := .rc5 } true readyRc5 =
      { readyRc5 with init := false, fault := true, err := 5, draws := 1 } := by decide

/-- P-7: an encode failure comes before NotInitialized. -/
theorem test_P7_send_samsung :
    (sendOp fix { proto := .samsung } false { ready with init := false }).err = 4 := by decide

set_option maxRecDepth 8000 in
/-- P-13: SENDN.NEC sends the data frame, the gap and the repeat frame. -/
theorem test_P13_sendn_nec :
    (sendnOp fix { proto := .nec } false ready).wave.drop 67 =
      [.on 38000 33 7, .off 400, .idle, .on 38000 33 90, .off 22, .on 38000 33 7] ∧
    (sendnOp fix { proto := .nec } false ready).symLen = 2 := by decide

set_option maxRecDepth 8000 in
/-- P-14: SENDN.SONY.12 sends the frame three times. -/
theorem test_P14_sendn_sony :
    ((sendnOp fix { proto := .sony } false { ready with opa := 1, opc := 21 }).wave.filter
      fun x => x = .off 250 ∨ x = .idle) = [.idle, .off 250, .idle, .off 250, .idle] ∧
    (sendnOp fix { proto := .sony } false { ready with opa := 1, opc := 21 }).symLen = 13 := by decide

/-- P-10, P-11: RSTTGL.RC6, and RSTTGL of a protocol without a toggle. -/
theorem test_P10_P11_rsttgl :
    exec .rsttglRc6 { ready with toggleRc5 := true, toggleRc6 := true } = .next { ready with toggleRc5 := true } ∧
    step (ready.withFetchWord 32 0x70000000) = .next { ready with err := 2 } := ⟨rfl, rfl⟩

/-! ## The step -/

/-- K8, K9, K12: illegal command words as the first word after reset. -/
theorem test_K8_K9_K12_illegal_words :
    (after (step (State.reset.withFetchWord 32 0x40000001))).err = 2 ∧
    step (State.reset.withFetchWord 32 0x00000000) = .next { State.reset with err := 2 } ∧
    (after (step (State.reset.withFetchWord 32 0x49000000))).err = 4 ∧
    step (State.reset.withFetchWord 32 0x10000001) = .next { State.reset with err := 2 } := ⟨rfl, rfl, rfl, rfl⟩

/-- Both rulings on an illegal ENCODE word (log 12): E21 clears RES0, K8 changes nothing but ERR; an INIT word with a
reserved bit keeps RES0 under either. -/
theorem test_E21_K8_illegal_encode :
    raiseIllegal fix 4 .reservedBits .invalidArgument { ready with res0 := 9 } = { ready with err := 2 } ∧
    raiseIllegal { fix with illegalClearsRes0 := fun _ _ => false } 4 .reservedBits .invalidArgument
      { ready with res0 := 9 } = { ready with res0 := 9, err := 2 } ∧
    raiseIllegal fix 1 .reservedBits .invalidArgument { ready with res0 := 9 } =
      { ready with res0 := 9, err := 2 } := by decide

/-- R154: a reset that cuts a frame ends the mask of the block and gives IE back; one between operations leaves IE. -/
theorem test_reset_event :
    (after (step { startSeq [⟨90, 45⟩, ⟨6, 0⟩] (critEnter ready4) with uport := [], port := [.reset] })).ie = true ∧
    (after (step { startSeq [⟨90, 45⟩, ⟨6, 0⟩] (critEnter { ready4 with ie := false }) with
      uport := [], port := [.reset] })).ie = false ∧
    step { ready with ie := false, port := [.reset] } = .next { State.reset with ie := false } := ⟨rfl, rfl, rfl⟩

/-- A placed micro-operation word is run by the next step. -/
theorem test_placed_micro_word : step (ready.withFetchWord 40 0x30000005A) = .next { ready with wave := [.off 90] } := rfl

/-- With nothing to do the block waits (R153). -/
theorem test_idle_waits : step State.reset = .next State.reset := rfl

/-! ## The hypotheses of the obligations can be met

One theorem for each obligation with hypotheses: a state and operands that meet them, clause by clause. The bounds
that mention the machine's opaque parameters hold by `params_legal`. -/

theorem nsym_ge_52 : 52 ≤ params.nsym := params_legal.nsym_ge

/-- The idle block with the host's action `a` next. -/
def offered (a : HostAction) : State := { ready with port := [a] }

/-- The largest legal capacity, in the register x[2]. -/
theorem nsym_in_register : (BitVec.ofNat 32 params.nsym).toNat = params.nsym :=
  (BitVec.toNat_ofNat ..).trans (Nat.mod_eq_of_lt params_legal.nsym_lt)

theorem witness_DecodeEncodeRoundTrip : WellFormed (.cen 100) ∧ WellFormed (.getinfo 31) := by decide

theorem witness_WordsOfARowDecodeToTheRow :
    (Instr.getinfo 0).row.fits (.cw 0x2F9C0000) = true ∧ (Instr.dly 0).row.fits (.uw 0x3FFFFFFFF) = true ∧
    Instr.encodeSonyVar3.row.fits (.cw 0x4161FFFF) = true := by decide

/-- K11: `tgl`, `auto`, `var` and `ext` are not read by ENCODE.NEC. -/
theorem witness_DecodeIgnoresFieldsNotRead :
    cwOp 0x407A0000 = cwOp 0x40000000 ∧ cwReserved 0x407A0000 = cwReserved 0x40000000 ∧
    cwProto 0x407A0000 = cwProto 0x40000000 ∧ cwRpt 0x407A0000 = cwRpt 0x40000000 ∧
    cwProto 0x407A0000 ≠ protoCode .sony ∧ cwProto 0x407A0000 ≠ protoCode .rc5 ∧
    cwProto 0x407A0000 ≠ protoCode .rc6 ∧ (0x407A0000 : BitVec 32) ≠ 0x40000000 := by decide

theorem witness_StepRunsTheDecodedInstruction :
    ((offered (.command 0x71800000)).uport = [] ∧ (offered (.command 0x71800000)).phase = .idle ∧
      (offered (.command 0x71800000)).port = .command 0x71800000 :: [] ∧
      decode (.cw 0x71800000) = .ok .rsttglRc5) ∧
    ({ ready with uport := [0x30000005A], phase := .mark }.uport = 0x30000005A :: [] ∧
      decode (.uw 0x30000005A) = .ok (.dly 90)) := by decide

/-- A nonzero reserved bit (the lowest, the highest, and in a word of Sony variant 3), protocol codes 18 and 31, RSTTGL of NEC and of code 18. -/
theorem witness_IllegalCommandWordsRaise :
    Instr.illegalOp15 ∈ [Instr.illegalOp0, .illegalOp9, .illegalOp10, .illegalOp11, .illegalOp12, .illegalOp13,
      .illegalOp14, .illegalOp15] ∧
    ((offered (.command 0x40000001)).uport = [] ∧ (offered (.command 0x40000001)).phase = .idle ∧
      (offered (.command 0x40000001)).port = .command 0x40000001 :: []) ∧
    cwReserved 0x40000001 ≠ 0 ∧ cwReserved 0x10010000 ≠ 0 ∧
    (cwReserved 0x41600001 ≠ 0 ∧ cwProto 0x41600001 = protoCode .sony ∧ cwVar 0x41600001 = 3) ∧
    (cwReserved 0x49000000 = 0 ∧ cwOp 0x49000000 = 4 ∧ 18 ≤ (cwProto 0x49000000).toNat) ∧
    (cwReserved 0x8F800000 = 0 ∧ cwOp 0x8F800000 = 8 ∧ 18 ≤ (cwProto 0x8F800000).toNat) ∧
    (cwReserved 0x70000000 = 0 ∧ cwOp 0x70000000 = 7 ∧ cwProto 0x70000000 ≠ protoCode .rc5 ∧
      cwProto 0x70000000 ≠ protoCode .rc6) ∧
    (cwReserved 0x79000000 = 0 ∧ cwOp 0x79000000 = 7 ∧ cwProto 0x79000000 ≠ protoCode .rc5 ∧
      cwProto 0x79000000 ≠ protoCode .rc6) := by decide

/-- The first and the last entry of SYM, and the index one past it; the empty name, a name of NAMEMAX bytes and one
that is a byte longer. -/
theorem witness_HostWritesBetweenOperations :
    ((offered (.setReg .opa 5)).uport = [] ∧ (offered (.setReg .opa 5)).phase = .idle ∧
      (offered (.setReg .opa 5)).port = .setReg .opa 5 :: [] ∧ (offered (.setIe false)).port = .setIe false :: []) ∧
    ((0 : Word).toNat < params.nsym ∧ (BitVec.ofNat 32 (params.nsym - 1)).toNat < params.nsym ∧
      Memory.wf (offered (.setSym 0 ⟨1, 2⟩)).sym = true) ∧
    params.nsym ≤ (BitVec.ofNat 32 params.nsym).toNat ∧
    (([] : List Byte).length ≤ params.nameMax ∧ (List.replicate params.nameMax (0 : Byte)).length ≤ params.nameMax) ∧
    params.nameMax < (List.replicate (params.nameMax + 1) (0 : Byte)).length :=
  ⟨⟨rfl, rfl, rfl, rfl⟩, ⟨Nat.lt_of_lt_of_le (by decide) nsym_ge_52,
    Nat.lt_of_le_of_lt (Nat.mod_le _ _) (Nat.sub_lt (Nat.lt_of_lt_of_le (by decide) nsym_ge_52) (by decide)), rfl⟩,
    Nat.le_of_eq nsym_in_register.symm, ⟨Nat.zero_le _, by rw [List.length_replicate]⟩,
    by rw [List.length_replicate]; exact Nat.lt_succ_self _⟩

theorem witness_HostAccessDuringATransmissionIsRefused :
    ({ ready with port := [.setIe false], phase := .space }.uport = [] ∧
      { ready with port := [.setIe false], phase := .space }.port = .setIe false :: [] ∧
      { ready with port := [.setIe false], phase := .space }.phase ≠ .idle) ∧
    HostAction.setIe false ≠ .reset := by decide

theorem witness_ResetEventRestartsTheBlock :
    { ready with port := [.reset, .setIe true], phase := .mark }.uport = [] ∧
    { ready with port := [.reset, .setIe true], phase := .mark }.port = .reset :: [.setIe true] := by decide

theorem witness_GetinfoReturnsTheRecord :
    18 ≤ (18 : BitVec 5).toNat ∧ 18 ≤ (31 : BitVec 5).toNat ∧
    (offered (.command 0x28800001)).uport = [] ∧ (offered (.command 0x28800001)).phase = .idle ∧
    (offered (.command 0x28800001)).port = .command 0x28800001 :: [] ∧ cwOp 0x28800001 = 2 := by decide

/-- The names `nec` and `NEC`. -/
theorem witness_FromnameIgnoresAsciiCase :
    List.Forall₂ (fun a b : Byte => a = b ∨ (0x41 ≤ a.toNat ∧ a.toNat ≤ 0x5A ∧ b = a + 0x20) ∨
        (0x41 ≤ b.toNat ∧ b.toNat ≤ 0x5A ∧ a = b + 0x20))
      (operandName (setName [0x4E, 0x65, 0x5A] ready)) (operandName (setName [0x6E, 0x45, 0x5A] ready)) ∧
    ∃ t t', exec .fromname (setName [0x4E, 0x65, 0x5A] ready) = .next t ∧
      exec .fromname (setName [0x6E, 0x45, 0x5A] ready) = .next t' :=
  ⟨.cons (by decide) (.cons (by decide) (.cons (by decide) .nil)), _, _, rfl, rfl⟩

/-- The hypotheses of a clause of ENCODE: address, command and capacity in range. -/
def encodes (wa wc cap : Nat) (s : State) : Prop :=
  s.opa.toNat < 2 ^ wa ∧ s.opc.toNat < 2 ^ wc ∧ cap ≤ s.opcap.toNat ∧ s.opcap.toNat ≤ params.nsym

/-- A block with an address, a command and a capacity. -/
def asked (a c cap : Word) : State := { ready with opa := a, opc := c, opcap := cap }

theorem encodes_asked {wa wc n : Nat} {a c cap : Word} (ha : a.toNat < 2 ^ wa) (hc : c.toNat < 2 ^ wc)
    (hn : n ≤ cap.toNat) (hcap : cap.toNat ≤ 52) : encodes wa wc n (asked a c cap) :=
  ⟨ha, hc, hn, Nat.le_trans hcap nsym_ge_52⟩

/-- Operands at the top of their widths and the least capacity, clause by clause; and NSYM as the capacity. -/
theorem witness_EncodeNecAndSonyStoreTheFrame :
    encodes 8 8 34 (asked 255 255 34) ∧ encodes 16 8 34 (asked 65535 255 34) ∧ encodes 5 7 13 (asked 31 127 13) ∧
    encodes 8 7 16 (asked 255 127 16) ∧ encodes 13 7 21 (asked 8191 127 21) ∧
    encodes 8 8 34 (asked 255 255 (BitVec.ofNat 32 params.nsym)) := by
  refine ⟨encodes_asked ?_ ?_ ?_ ?_, encodes_asked ?_ ?_ ?_ ?_, encodes_asked ?_ ?_ ?_ ?_, encodes_asked ?_ ?_ ?_ ?_,
    encodes_asked ?_ ?_ ?_ ?_, (by decide : (255 : Word).toNat < 2 ^ 8), (by decide : (255 : Word).toNat < 2 ^ 8), ?_⟩
  all_goals first | decide | skip
  show 34 ≤ (BitVec.ofNat 32 params.nsym).toNat ∧ (BitVec.ofNat 32 params.nsym).toNat ≤ params.nsym
  rw [nsym_in_register]
  exact ⟨Nat.le_trans (by decide) nsym_ge_52, Nat.le_refl _⟩

theorem witness_EncodeSharpPanasonicKaseikyoCoolixStoreTheFrame :
    encodes 5 8 16 (asked 31 255 16) ∧ encodes 16 32 49 (asked 65535 0xFFFFFFFF 49) ∧
    (asked 0 0xFFFFFF 52).opa = 0 ∧ encodes 0 24 52 (asked 0 0xFFFFFF 52) := by
  refine ⟨encodes_asked ?_ ?_ ?_ ?_, encodes_asked ?_ ?_ ?_ ?_, rfl, encodes_asked ?_ ?_ ?_ ?_⟩ <;> decide

theorem witness_EncodeManchesterStoresTheFrame :
    encodes 5 6 14 (asked 31 63 14) ∧ encodes 5 7 14 (asked 31 127 14) ∧ encodes 8 8 20 (asked 255 255 20) := by
  refine ⟨encodes_asked ?_ ?_ ?_ ?_, encodes_asked ?_ ?_ ?_ ?_, encodes_asked ?_ ?_ ?_ ?_⟩ <;> decide

/-- The address 0 and the command 0 lie within any registry width. -/
theorem witness_EncodeWithoutAFrameRule :
    (hasFrameRule .samsung = false ∧ fix.encExt .samsung = none) ∧
    (∀ P, ready.opa.toNat < 2 ^ (info params P).addressBits.toNat ∧
      ready.opc.toNat < 2 ^ (info params P).commandBits.toNat) :=
  ⟨⟨rfl, rfl⟩, fun _ => ⟨Nat.two_pow_pos _, Nat.two_pow_pos _⟩⟩

theorem witness_FailedEncodeChangesOnlyErrAndRes0 :
    isEncode .encodeSonyVar3 = true ∧ isEncode (.encodeRc6 true false) = true ∧
    ∃ t, exec .encodeSonyVar3 ready = .next t ∧ t.err ≠ 0 := ⟨by decide, by decide, _, rfl, by decide⟩

/-- A capacity one above NSYM; one below the minima of NEC and RC6; and one that holds the frame. -/
theorem witness_CapacityChecks :
    ParamsLegal fix ∧ (hasFrameRule .nec = true ∧ hasFrameRule .rc6 = true) ∧
    (0xFF < 2 ^ waddr fix { proto := .nec } ∧ 0xFF < 2 ^ wcmd fix { proto := .nec }) ∧ fix.nsym < 65 ∧
    (33 < mincap fix { proto := .nec } ∧ 19 < mincap fix { proto := .rc6 } ∧
      33 < mincap fix { proto := .nec, rpt := true }) ∧
    (encodeFrame fix { proto := .nec } 0xFF 0xFF 34).isOk = true := ⟨test_fix_legal, by decide⟩

/-- The forms on both sides of their bounds: NEC and its repeat frame at 33, RC6 at 19, COOLIX at 51, with operands at
the top of their widths. -/
theorem witness_CapacityChecks_forms :
    (⟨.encodeNec, .nec, 8, 8, 34⟩ ∈ forms false false ∧ (asked 255 255 33).opcap.toNat < 34) ∧
    (⟨.encodeNecRpt, .nec, 8, 8, 34⟩ ∈ forms false false ∧ (asked 255 255 33).opc.toNat < 2 ^ 8) ∧
    (⟨.encodeRc6 true true, .rc6, 8, 8, 20⟩ ∈ forms true true ∧ (asked 255 255 19).opcap.toNat < 20) ∧
    (⟨.encodeCoolix true, .coolix, 0, 24, 52⟩ ∈ forms true true ∧ (asked 0 0xFFFFFF 51).opcap.toNat < 52 ∧
      (asked 0 0xFFFFFF 51).opa.toNat < 2 ^ 0) :=
  ⟨⟨.head _, by decide⟩, ⟨.tail _ (.head _), by decide⟩, ⟨by simp [forms], by decide⟩, ⟨by simp [forms], by decide⟩⟩

/-- One above the width, for an ENCODE, a SEND and a SENDN; the 7-bit command of extended RC5. -/
theorem witness_OutOfWidthOperandsFollowThePolicy_forms :
    (⟨.encodeNec, .nec, 8, 8, 34⟩ ∈ forms false false ∧ encodeOf ready .sendNec = some .encodeNec ∧
      2 ^ 8 ≤ (asked 256 0 0).opa.toNat) ∧
    (⟨.encodeRc5X false true, .rc5, 5, 7, 14⟩ ∈ forms false true ∧
      encodeOf ready (.sendnRc5X true true true) = some (.encodeRc5X false true) ∧ 2 ^ 7 ≤ (asked 0 128 0).opc.toNat) :=
  ⟨⟨.head _, rfl, by decide⟩, ⟨by simp [forms], rfl, by decide⟩⟩

theorem witness_OutOfWidthOperandsFollowThePolicy :
    hasEnc fix .nec = true ∧ (fix.strict = true ∧ 2 ^ waddr fix { proto := .nec } ≤ (0x100 : Word).toNat) ∧
    2 ^ wcmd fix { proto := .coolix } ≤ (0x1000000 : Word).toNat ∧ { fix with strict := false }.strict = false := by
  decide

theorem witness_EncodeReadsOnlyItsOperands :
    isEncode .encodeNec = true ∧ ready.opa = State.reset.opa ∧ ready.opc = State.reset.opc ∧
    ready.opcap = State.reset.opcap ∧ Memory.wf ready.sym = true ∧ Memory.wf State.reset.sym = true ∧ ready ≠ State.reset ∧
    ∃ t t', exec .encodeNec ready = .next t ∧ exec .encodeNec State.reset = .next t' :=
  ⟨by decide, by decide, by decide, by decide, by decide, by decide, by decide, _, _, rfl, rfl⟩

theorem witness_PulseFrameLengths :
    TimingLegal .nec (catFix .nec) ∧ TimingLegal .necExt (catFix .necExt) ∧ TimingLegal .coolix (catFix .coolix) :=
  ⟨test_fix_legal.timing .nec, test_fix_legal.timing .necExt, test_fix_legal.timing .coolix⟩

theorem witness_NecFrameIsBalanced : 255 < 256 ∧ 0 < 256 := by decide

/-- The least half-bit time, and the greatest that R87 allows. -/
theorem witness_Rc5FrameLengthAndDuration :
    (1 ≤ halfBit { catFix .rc5 with bitOneMarkUs := 1 } ∧ 3 * halfBit { catFix .rc5 with bitOneMarkUs := 1 } < 2 ^ 32) ∧
    (1 ≤ halfBit { catFix .rc5 with bitOneMarkUs := 1431655765 } ∧
      3 * halfBit { catFix .rc5 with bitOneMarkUs := 1431655765 } < 2 ^ 32) ∧ 63 < 64 := by decide

theorem witness_Rc6FrameLengthAndDuration : TimingLegal .rc6 (catFix .rc6) ∧ 1 ≤ halfBit (catFix .rc6) :=
  ⟨test_fix_legal.timing .rc6, by decide⟩

theorem witness_PackingKeepsTheWaveform :
    (([⟨false, 3⟩, ⟨true, 2⟩, ⟨true, 0⟩, ⟨true, 4294967290⟩] : List Run).map Run.us).sum < 2 ^ 32 := by decide

theorem witness_PulseFramesDetermineTheirOperands :
    (classOf .sharp = some .pulseDistance ∧ ClassLegal .sharp (catFix .sharp) ∧ ClassLegal .sony (catFix .sony)) ∧
    bitSymbol (catFix .nec) true ≠ bitSymbol (catFix .nec) false ∧
    (255 < 2 ^ 8 ∧ 65535 < 2 ^ 16 ∧ 0xFFFFFF < 2 ^ 24 ∧ 0xFFFFFFFF < 2 ^ 32) ∧
    13 ∈ [5, 8, 13] ∧ frameNec (catFix .nec) 255 0 = frameNec (catFix .nec) 255 0 :=
  ⟨⟨rfl, test_fix_class_legal .sharp, test_fix_class_legal .sony⟩, by decide⟩

theorem witness_ManchesterFramesDetermineTheirOperands :
    (1 ≤ halfBit (catFix .rc5) ∧ 3 * halfBit (catFix .rc5) < 2 ^ 32) ∧
    (1 ≤ halfBit (catFix .rc6) ∧ 3 * halfBit (catFix .rc6) < 2 ^ 32 ∧ TimingLegal .rc6 (catFix .rc6)) ∧
    (31 < 2 ^ 5 ∧ 63 < 2 ^ 6 ∧ 127 < 2 ^ 7 ∧ 255 < 2 ^ 8) ∧
    frameRc5 (catFix .rc5) 31 63 true = frameRc5 (catFix .rc5) 31 63 true :=
  ⟨by decide, ⟨by decide, by decide, test_fix_legal.timing .rc6⟩, by decide, rfl⟩

/-- Frequency 1 and duty 100; frequency 0; duty 101; an INIT word offered between operations and during one. -/
theorem witness_InitConfiguresTheCarrier :
    ((1 : Word) ≠ 0 ∧ (100 : Word).toNat ≤ 100) ∧ (State.reset.opfreq = 0 ∧ 100 < (101 : Word).toNat) ∧
    ((offered (.command 0x10000000)).uport = [] ∧ (offered (.command 0x10000000)).port = .command 0x10000000 :: [] ∧ cwOp 0x10000000 = 1 ∧ cwOp 0x10000001 = 1 ∧
      { ready with phase := .mark }.phase ≠ .idle) := by decide

/-- T4, an empty sequence (T5), a frequency of 0, a duty of 101, and an uninitialised block. -/
theorem witness_TransmitEmitsTheWaveform :
    ((ready4.opfreq ≠ 0 ∧ ready4.opduty.toNat ≤ 100 ∧ ready4.oplen.toNat ≤ params.nsym ∧ ready4.init = true) ∧
      ([⟨90, 45⟩, ⟨6, 0⟩] : List Sys2Proof.Symbol).length = ready4.oplen.toNat ∧
      ∀ k, k < 2 → symGet ready4.sym k = ([⟨90, 45⟩, ⟨6, 0⟩] : List Sys2Proof.Symbol)[k]?) ∧
    ([] : List Sys2Proof.Symbol).length = { ready4 with oplen := 0 }.oplen.toNat ∧
    ({ ready4 with opfreq := 0 }.opfreq = 0 ∧ 100 < { ready4 with opduty := 101 }.opduty.toNat) ∧
    { ready4 with init := false }.init = false :=
  ⟨⟨⟨by decide, by decide, Nat.le_trans (by decide) nsym_ge_52, rfl⟩, rfl, by decide⟩, rfl, by decide, rfl⟩

/-- A length one above NSYM, where NSYM is less than `2^32 - 1`: the second clause's third case, in `FIX`. -/
theorem witness_TransmitEmitsTheWaveform_length : fix.nsym < (65 : Word).toNat := by decide

/-- T12. -/
theorem witness_TransmitFaultsOnAnUnwrittenEntry :
    ready4.opfreq ≠ 0 ∧ ready4.opduty.toNat ≤ 100 ∧ ready4.oplen.toNat ≤ params.nsym ∧ ready4.init = true ∧
    1 < ready4.oplen.toNat ∧ symGet [(0, ⟨90, 45⟩)] 1 = none ∧ ∀ j, j < 1 → symGet [(0, ⟨90, 45⟩)] j ≠ none :=
  ⟨by decide, by decide, Nat.le_trans (by decide) nsym_ge_52, rfl, by decide, by decide, by decide⟩

theorem witness_CdisDisablesTheCarrier : ready.carrier = false := rfl

theorem witness_DlyRecordsTheTimeThatPasses : ∃ t, exec (.cen 33) ready = .next t ∨ exec .cdis ready = .next t :=
  ⟨_, .inr rfl⟩

theorem witness_SmallStepsMakeTheBigStep :
    ([⟨90, 45⟩, ⟨6, 0⟩] : List Sys2Proof.Symbol) ≠ [] ∧ 2 < 2 ^ 32 ∧ ready4.port = [] ∧ ready4.uport = [] ∧
    ∀ k, k < 2 → symGet ready4.sym k = ([⟨90, 45⟩, ⟨6, 0⟩] : List Sys2Proof.Symbol)[k]? := by decide

/-- The hypotheses of a clause of SEND or SENDN. -/
def sends (wa wc : Nat) (s : State) : Prop :=
  s.opa.toNat < 2 ^ wa ∧ s.opc.toNat < 2 ^ wc ∧ s.init = true ∧ s.carrier = false

/-- The forms of the tables of R61 and R75 are all the rows ENCODE.* but the reserved Sony variant, each one once. -/
theorem test_forms : ∀ tgl rpt, ((forms tgl rpt).map Form.encode).Nodup ∧ (forms tgl rpt).length = 22 ∧
    ∀ i ∈ (forms tgl rpt).map Form.encode, isEncode i = true := by
  intro tgl rpt
  cases tgl <;> cases rpt <;> exact ⟨by decide, rfl, by decide⟩

/-- The clauses of SendNecAndSony and SendnNecAndSony. -/
theorem witness_SendNecAndSony :
    sends 8 8 (asked 255 255 0) ∧ sends 16 8 (asked 65535 255 0) ∧ sends 5 7 (asked 31 127 0) ∧
    sends 8 7 (asked 255 127 0) ∧ sends 13 7 (asked 8191 127 0) := by
  unfold sends; decide

/-- The clauses of SendSharpPanasonicKaseikyoCoolix and SendnSharpPanasonicKaseikyoCoolix. -/
theorem witness_SendSharpPanasonicKaseikyoCoolix :
    sends 5 8 (asked 31 255 0) ∧ sends 16 32 (asked 65535 0xFFFFFFFF 0) ∧ sends 0 24 (asked 0 0xFFFFFF 0) ∧
    (asked 0 0xFFFFFF 0).opa = 0 := by
  unfold sends; decide

/-- The clauses of SendManchesterWithToggle and SendnManchesterWithToggle. -/
theorem witness_SendManchesterWithToggle :
    sends 5 6 (asked 31 63 0) ∧ sends 5 7 (asked 31 127 0) ∧ sends 8 8 (asked 255 255 0) := by
  unfold sends; decide

/-- The clauses of SendWithoutAFrameRule and SendnWithoutAFrameRule. -/
theorem witness_SendWithoutAFrameRule :
    (hasFrameRule .generic = false ∧ fix.encExt .generic = none) ∧
    (Instr.sendSamsung true, Proto.samsung) ∈ [(Instr.sendSamsung true, Proto.samsung)] ∧
    ∀ P, sends (info params P).addressBits.toNat (info params P).commandBits.toNat ready :=
  ⟨⟨rfl, rfl⟩, by decide, fun _ => ⟨Nat.two_pow_pos _, Nat.two_pow_pos _, rfl, rfl⟩⟩

theorem witness_SendRaisesBeforeAnyOutput :
    (isSend (.sendRc5 true true false) = true ∧ isSend .sendnSonyVar3 = true ∧ State.reset.init = false) ∧
    ({ State.reset with opa := 255, opc := 255 }.opa.toNat < 2 ^ 8 ∧
      { State.reset with opa := 255, opc := 255 }.opc.toNat < 2 ^ 8) ∧
    encodeOf State.reset (.sendRc5 true false true) = some (.encodeRc5 true true) ∧
    encodeOf { State.reset with toggleRc6 := true } (.sendnRc6 false true false) = some (.encodeRc6 true false) ∧
    (encodeOp fix { proto := .samsung } ready).err ≠ 0 := by decide

theorem witness_RsttglClearsOneToggleBit :
    (offered (.command 0x79000000)).uport = [] ∧ (offered (.command 0x79000000)).phase = .idle ∧
    (offered (.command 0x79000000)).port = .command 0x79000000 :: [] ∧ cwOp 0x79000000 = 7 ∧ cwOp 0x71800000 = 7 := by
  decide

theorem witness_SendIsEncodeThenTransmit :
    ParamsLegal fix ∧ Memory.wf readyRc5.sym = true ∧ (sendOp fix { proto := .rc5, tgl := true } false readyRc5).err = 0 ∧
    (sendOp fix { proto := .rc5 } true readyRc5).err = 0 := ⟨test_fix_legal, by decide⟩

theorem witness_TwoAutoSendsDifferInTheToggleBit :
    ParamsLegal fix ∧ Memory.wf readyRc5.sym = true ∧ hasToggle .rc5 = true ∧
    (sendOp fix { proto := .rc5 } true readyRc5).err = 0 ∧
    (sendOp fix { proto := .rc5 } true (sendOp fix { proto := .rc5 } true readyRc5)).err = 0 :=
  ⟨test_fix_legal, by decide⟩

theorem witness_InterruptEnableIsPreserved : ∃ t, exec .encodeNec ready = .next t := ⟨_, rfl⟩

theorem witness_WaveOnlyGrows : ∃ t, exec (.dly 90) ready = .next t := ⟨_, rfl⟩

theorem witness_OperandsAndHostStateAreNotWritten : ∃ t, exec .sendNec ready = .next t := ⟨_, rfl⟩

theorem witness_FailedOperationsHaveNoEffect :
    isCommand .illegalOp0 = true ∧ ∃ t, exec .illegalOp0 ready = .next t ∧ t.err ≠ 0 := ⟨rfl, _, rfl, by decide⟩

theorem witness_ToggleBitsChangeOnlyAsStated :
    isCommand (.sendRc5 false true false) = true ∧ ∃ t, exec (.sendRc5 false true false) ready = .next t := ⟨rfl, _, rfl⟩

theorem witness_OnlyInitLeavesTheUninitialisedState :
    isCommand .init = true ∧ State.reset.init = false ∧ ∃ t, exec .init State.reset = .next t := ⟨rfl, rfl, _, rfl⟩

/-- A transmission in progress meets the invariant, and its step answers a next state. -/
theorem witness_EveryStepKeepsTheInvariant :
    Inv (startSeq [⟨90, 45⟩, ⟨6, 0⟩] (critEnter ready4)) ∧
    ∃ t, step (startSeq [⟨90, 45⟩, ⟨6, 0⟩] (critEnter ready4)) = .next t :=
  ⟨{ idleCarrier := by decide
     carrierInit := by decide
     faultInit := by decide
     symLen := Nat.zero_le _
     duty := by decide
     freq := by decide
     err := by decide
     name := Nat.zero_le _
     nameBytes := Nat.zero_le _
     symWf := by decide
     symBelow := by
       simp only [symBelow, List.all_eq_true, decide_eq_true_eq]
       intro c hc
       have := nsym_ge_52
       have hk : c.1 < 2 := by revert c; decide
       omega
     idleWords := by decide
     busy := fun _ => ⟨by decide, by decide, by decide, Nat.le_trans (by decide) nsym_ge_52⟩
     markWords := fun _ => ⟨90, .inl rfl⟩
     spaceWords := by intro h; cases h }, _, rfl⟩

end Sys2Proof.Tests
end

section
/-! PROOFS. What one step takes and runs: a rule per source of the next word (the order of preference of `runNext`), the
rule for a word that decodes, and from them the family of 00_scope. -/

namespace Sys2Proof.Machine

/-! ## Where the next step's work comes from -/

/-- A waiting micro-operation word comes before anything the host has scheduled (log 11). -/
theorem step_of_microWaiting {s : State} {u : BitVec 34} {us : List (BitVec 34)} (huport : s.uport = u :: us) :
    step s = runWord (.uw u) (takeMicro u us s) := by
  simp only [step, runNext, huport]

/-- Between operations the host's next action is taken from the schedule and run (20_memory R45). -/
theorem step_of_hostAction {s : State} {a : HostAction} {rest : List HostAction} (huport : s.uport = [])
    (hphase : s.phase = .idle) (hport : s.port = a :: rest) : step s = runAction a (takeAction rest s) := by
  simp only [step, runNext, huport, hport, if_pos (Or.inl hphase)]

/-- A command word presented between operations is run as a word (30_encoding R52). -/
theorem step_of_command {s : State} {w : BitVec 32} {rest : List HostAction} (huport : s.uport = [])
    (hphase : s.phase = .idle) (hport : s.port = .command w :: rest) :
    step s = runWord (.cw w) (takeAction rest s) :=
  step_of_hostAction huport hphase hport

/-! ## What a presented word does -/

theorem runWord_of_decode_ok {c : CodeWord} {i : Instr} (hdecode : decode c = .ok i) (s : State) :
    runWord c s = exec i s := by
  simp only [runWord, hdecode]

/-! ## The family of 00_scope -/

/-- Settles O6: the word is taken from where it waits, and running a word is running what it decodes to. -/
theorem stepRunsTheDecodedInstruction : Obligations.StepRunsTheDecodedInstruction := by
  constructor
  · intro s w rest i huport hphase hport hdecode
    calc step s
      _ = runWord (.cw w) (takeAction rest s) := step_of_command huport hphase hport
      _ = exec i (takeAction rest s) := runWord_of_decode_ok hdecode _
  · intro s u us i huport hdecode
    calc step s
      _ = runWord (.uw u) (takeMicro u us s) := step_of_microWaiting huport
      _ = exec i (takeMicro u us s) := runWord_of_decode_ok hdecode _

end Sys2Proof.Machine
end

section
/-! PROOFS. What a command of the block is made of: every operation at the command port but INIT is a chain of a few
elementary updates, so a claim over all instructions is a claim about each update. From that the family of 10_state:
what no operation writes, the silence of an uninitialised block, the invariant of the machine. -/

namespace Sys2Proof.Machine

/-! ## The operation behind each instruction -/

/-- The shared operation that answers for an instruction in the state `s`. -/
inductive Answers (s : State) : Instr → State → Prop
  | init : Answers s .init (initOp params s)
  | getinfo (code : BitVec 5) : Answers s (.getinfo code) (getinfoOp params code s)
  | fromname : Answers s .fromname (fromnameOp params s)
  | encode (i : Instr) (sel : FrameSel) : Answers s i (encodeOp params sel s)
  | illegalFrame (i : Instr) (op : BitVec 4) (k : IllegalFrame) (e : ResultCode) :
      Answers s i (raiseIllegal params op k e s)
  | transmit {t : State} (h : transmitOp params s = .next t) : Answers s .transmit t
  | send (i : Instr) (sel : FrameSel) (auto : Bool) : Answers s i (sendOp params sel auto s)
  | rsttgl (i : Instr) (P : Proto) : Answers s i (rsttglOp P s)
  | sendn (i : Instr) (sel : FrameSel) (auto : Bool) : Answers s i (sendnOp params sel auto s)
  | illegal (i : Instr) : Answers s i (illegalOp s)
  | cen (d : Duty) : Answers s (.cen d) (cen d s)
  | cdis : Answers s .cdis (cdis s)
  | dly (n : Word) : Answers s (.dly n) (dly n s)

/-- The dispatch, read once: what an instruction answers is what its shared operation answers. -/
theorem answers_of_exec {i : Instr} {s t : State} (h : exec i s = .next t) : Answers s i t := by
  cases i with
  | init => cases h; exact .init
  | getinfo code => cases h; exact .getinfo code
  | fromname => cases h; exact .fromname
  | encodeNec | encodeNecRpt | encodeNecExt _ | encodeSony12 _ | encodeSony15 _ | encodeSony20 _ | encodeRc5 _ _
  | encodeRc5X _ _ | encodeRc6 _ _ | encodeSamsung _ | encodePanasonic _ | encodeJvc _ | encodeLg _
  | encodeMitsubishi _ | encodeSharp _ | encodeDish _ | encodeAiwa _ | encodeDenon _ | encodeKaseikyo _
  | encodeWhynter _ | encodeCoolix _ | encodeGeneric _ => cases h; exact .encode _ _
  | encodeSonyVar3 | sendSonyVar3 | sendnSonyVar3 => cases h; exact .illegalFrame _ _ _ _
  | transmit => exact .transmit h
  | sendNec | sendNecRpt | sendNecExt _ | sendSony12 _ | sendSony15 _ | sendSony20 _ | sendRc5 _ _ _
  | sendRc5X _ _ _ | sendRc6 _ _ _ | sendSamsung _ | sendPanasonic _ | sendJvc _ | sendLg _ | sendMitsubishi _
  | sendSharp _ | sendDish _ | sendAiwa _ | sendDenon _ | sendKaseikyo _ | sendWhynter _ | sendCoolix _
  | sendGeneric _ => cases h; exact .send _ _ _
  | rsttglRc5 | rsttglRc6 => cases h; exact .rsttgl _ _
  | sendnNec | sendnNecRpt | sendnNecExt _ | sendnSony12 _ | sendnSony15 _ | sendnSony20 _ | sendnRc5 _ _ _
  | sendnRc5X _ _ _ | sendnRc6 _ _ _ | sendnSamsung _ | sendnPanasonic _ | sendnJvc _ | sendnLg _
  | sendnMitsubishi _ | sendnSharp _ | sendnDish _ | sendnAiwa _ | sendnDenon _ | sendnKaseikyo _
  | sendnWhynter _ | sendnCoolix _ | sendnGeneric _ => cases h; exact .sendn _ _ _
  | illegalOp0 | illegalOp9 | illegalOp10 | illegalOp11 | illegalOp12 | illegalOp13 | illegalOp14
  | illegalOp15 => cases h; exact .illegal _
  | cen d => cases h; exact .cen d
  | cdis => cases h; exact .cdis
  | dly n => cases h; exact .dly n

/-! ## The elementary updates of a command -/

/-- One elementary update of the operations other than INIT, with what the operation has checked before it: a carrier
in range, a frame that fits the buffer, an initialised block before anything reaches the pin. -/
inductive Update : State → State → Prop
  | raise (e : ResultCode) (s : State) : Update s (raise e s)
  | result (v : Word) (r : ProtocolInfo) (s : State) : Update s { s with res0 := v, resinfo := r }
  | attempt (s : State) : Update s (attempt s)
  | hwFailed (s : State) : Update s (hwFailed s)
  | configure {f : Word} {d : Duty} (hf : f ≠ 0) (hd : d.toNat ≤ 100) (s : State) : Update s (configure f d s)
  | storeFrame {F : List Symbol} (hF : F.length ≤ params.nsym) (s : State) : Update s (storeFrame F s)
  | setToggle (P : Proto) (v : Bool) (s : State) : Update s (setToggle P v s)
  | gap (n : Word) {s : State} (hinit : s.init = true) : Update s (dly n s)
  | emit (S : List Symbol) {s : State} (hinit : s.init = true) : Update s (emit S s)

/-- A chain of elementary updates. -/
abbrev Updates : State → State → Prop := Relation.ReflTransGen Update

theorem updates_raiseNoFrame (e : ResultCode) (s : State) : Updates s (raiseNoFrame e s) :=
  .tail (.single (.result 0 s.resinfo s)) (.raise e _)

theorem updates_hwFailed_attempt (s : State) : Updates s (hwFailed (attempt s)) :=
  .tail (.single (.attempt s)) (.hwFailed _)

theorem updates_flipToggle (P : Proto) (auto : Bool) (s : State) : Updates s (flipToggle P auto s) := by
  unfold flipToggle
  split
  · exact .single (.setToggle P _ s)
  · exact .refl

theorem updates_getinfoOp (code : BitVec 5) (s : State) : Updates s (getinfoOp params code s) := by
  unfold getinfoOp
  split
  · exact .single (.raise .notFound s)
  · exact .tail (.single (.result s.res0 _ s)) (.raise .ok _)

theorem updates_fromnameOp (s : State) : Updates s (fromnameOp params s) :=
  .tail (.single (.result _ s.resinfo s)) (.raise .ok _)

theorem updates_encodeOp (sel : FrameSel) (s : State) : Updates s (encodeOp params sel s) := by
  obtain ⟨e, _, heq⟩ | ⟨F, hF, heq⟩ := encodeOp_cases params sel s
  · rw [heq]
    exact updates_raiseNoFrame e s
  · obtain ⟨_, _, hlen, hcap⟩ := encodeFrame_ok hF
    rw [heq]
    exact .tail (.single (.storeFrame (hlen.trans hcap) s)) (.raise .ok _)

theorem updates_raiseIllegal (op : BitVec 4) (k : IllegalFrame) (e : ResultCode) (s : State) :
    Updates s (raiseIllegal params op k e s) := by
  obtain heq | ⟨_, heq⟩ := raiseIllegal_cases params op k e s
  · rw [heq]
    exact .single (.raise e s)
  · rw [heq]
    exact updates_raiseNoFrame e s

/-- A duty cycle that INIT and TRANSMIT accept is kept whole in the 7 bits of `CDUTY` (R119, log 25). -/
theorem setWidth_duty_le {v : Word} (hv : v.toNat ≤ 100) : (v.setWidth 7).toNat ≤ 100 := by
  rw [BitVec.toNat_setWidth]
  exact (Nat.mod_le _ _).trans hv

theorem updates_transmitOp {s t : State} (h : transmitOp params s = .next t) : Updates s t := by
  obtain rfl | ⟨_, rfl⟩ | ⟨_, _, rfl⟩ | ⟨S, hinit, _, hfreq, hduty, _, _, rfl⟩ := transmitOp_cases h
  · exact .single (.raise .invalidArgument s)
  · exact .single (.raise .notInitialized s)
  · exact .tail (updates_hwFailed_attempt s) (.raise .hwFailure _)
  · exact .tail (.tail (.tail (.single (.attempt s)) (.configure hfreq (setWidth_duty_le hduty) _))
      (.emit S hinit)) (.raise .ok _)

/-! ## The emission of a SEND and of a SENDN -/

@[simp] theorem emit_init (S : List Symbol) (s : State) : (emit S s).init = s.init := by
  rw [emit_eq_emitted]; rfl

@[simp] theorem sendOne_init (F : List Symbol) (s : State) : (sendOne F s).init = s.init := by
  simp [sendOne]

theorem updates_sendOne {F : List Symbol} (hF : F.length ≤ params.nsym) {s : State} (hinit : s.init = true) :
    Updates s (sendOne F s) :=
  .tail (.single (.storeFrame hF s)) (.emit F hinit)

theorem updates_sendRepeats (gap : Word) {FR : List Symbol} (hFR : FR.length ≤ params.nsym) (n : Nat) {s : State}
    (hinit : s.init = true) : Updates s (sendRepeats gap FR n s) := by
  induction n generalizing s with
  | zero => exact .refl
  | succ n ih =>
    have hgap : Updates s (dly gap s) := .single (.gap gap hinit)
    have hone : Updates (dly gap s) (sendOne FR (dly gap s)) := updates_sendOne hFR (by simpa using hinit)
    exact (hgap.trans hone).trans (ih (by simpa using hinit))

/-- The frames after the first fit the buffer when the first does (R91, R136 step 5). -/
theorem repeatOf_length_le (P : Proto) {F : List Symbol} (hF : F.length ≤ params.nsym) :
    (repeatOf params P F).length ≤ params.nsym := by
  unfold repeatOf
  split
  · have hmin := params_legal.nsym_ge
    have hlen := repeatFrame_length_le params P
    omega
  · exact hF

theorem updates_sendAll (P : Proto) {F : List Symbol} (hF : F.length ≤ params.nsym) {s : State}
    (hinit : s.init = true) : Updates s (sendAll params P F s) :=
  (updates_sendOne hF hinit).trans
    (updates_sendRepeats _ (repeatOf_length_le P hF) _ ((sendOne_init F s).trans hinit))

/-- SEND and SENDN, for an emission `out` that is a chain of updates itself. -/
theorem updates_sendWith (sel : FrameSel) (auto : Bool) (out : List Symbol → State → State) (s : State)
    (hout : ∀ {F : List Symbol}, F.length ≤ params.nsym → ∀ {s : State}, s.init = true → Updates s (out F s)) :
    Updates s (sendWith params sel auto out s) := by
  obtain ⟨e, _, heq⟩ | ⟨_, heq⟩ | ⟨_, _, heq⟩ | ⟨F, hF, hinit, _, heq⟩ := sendWith_cases params sel auto out s <;>
    rw [heq]
  · exact updates_raiseNoFrame e s
  · exact updates_raiseNoFrame .notInitialized s
  · exact (updates_hwFailed_attempt s).trans (updates_raiseNoFrame .hwFailure _)
  · obtain ⟨_, _, hlen, hcap⟩ := encodeFrame_ok hF
    have hlegal := params_legal.timing sel.proto
    have hconf : Updates s (configureFor params sel.proto (attempt s)) :=
      .tail (.single (.attempt s)) (.configure hlegal.freq hlegal.duty _)
    exact .tail ((hconf.trans (hout (hlen.trans hcap) hinit)).trans (updates_flipToggle _ _ _)) (.raise .ok _)

/-- What every operation but INIT is made of. -/
theorem updates_of_command {i : Instr} {s t : State} (hcommand : isCommand i = true) (hi : i ≠ .init)
    (h : exec i s = .next t) : Updates s t := by
  cases answers_of_exec h with
  | init => exact absurd rfl hi
  | getinfo code => exact updates_getinfoOp code s
  | fromname => exact updates_fromnameOp s
  | encode _ sel => exact updates_encodeOp sel s
  | illegalFrame _ op k e => exact updates_raiseIllegal op k e s
  | transmit ht => exact updates_transmitOp ht
  | send _ sel auto => exact updates_sendWith sel auto sendOne s updates_sendOne
  | rsttgl _ P => exact .tail (.single (.setToggle P false s)) (.raise .ok _)
  | sendn _ sel auto => exact updates_sendWith sel auto _ s (updates_sendAll sel.proto)
  | illegal => exact .single (.raise .invalidArgument s)
  | cen | cdis | dly => cases hcommand

/-! ## What no operation writes (R14, R15, R29) -/

/-- The state `t` has what belongs to the host and to the sequencer as `s` has it, and the output history of `s` is the
beginning of its own. -/
structure HostSideKept (s t : State) : Prop where
  regs : ∀ r, getReg r t = getReg r s
  opname : t.opname = s.opname
  opnameLen : t.opnameLen = s.opnameLen
  port : t.port = s.port
  uport : t.uport = s.uport
  wave : s.wave <+: t.wave

theorem HostSideKept.refl (s : State) : HostSideKept s s :=
  ⟨fun _ => rfl, rfl, rfl, rfl, rfl, [], List.append_nil _⟩

theorem HostSideKept.trans {s t u : State} (hst : HostSideKept s t) (htu : HostSideKept t u) : HostSideKept s u where
  regs r := (htu.regs r).trans (hst.regs r)
  opname := htu.opname.trans hst.opname
  opnameLen := htu.opnameLen.trans hst.opnameLen
  port := htu.port.trans hst.port
  uport := htu.uport.trans hst.uport
  wave := hst.wave.trans htu.wave

theorem hostSideKept_dly (n : Word) (s : State) : HostSideKept s (dly n s) :=
  { HostSideKept.refl s with regs := fun r => by cases r <;> rfl, wave := ⟨_, rfl⟩ }

theorem hostSideKept_initOp (s : State) : HostSideKept s (initOp params s) := by
  obtain ⟨_, heq⟩ | ⟨_, _, _, heq⟩ | ⟨_, _, _, heq⟩ := initOp_cases params s <;> rw [heq]
  all_goals exact { HostSideKept.refl s with regs := fun r => by cases r <;> rfl }

theorem hostSideKept_setToggle (P : Proto) (v : Bool) (s : State) : HostSideKept s (setToggle P v s) where
  regs r := by cases r <;> simp [getReg]
  opname := setToggle_opname P v s
  opnameLen := setToggle_opnameLen P v s
  port := setToggle_port P v s
  uport := setToggle_uport P v s
  wave := by simp

theorem Update.hostSideKept {s t : State} (h : Update s t) : HostSideKept s t := by
  cases h with
  | raise | result | attempt | hwFailed | configure | storeFrame =>
    exact { HostSideKept.refl s with regs := fun r => by cases r <;> rfl }
  | setToggle P v => exact hostSideKept_setToggle P v s
  | gap n => exact hostSideKept_dly n s
  | emit S =>
    rw [emit_eq_emitted]
    exact { HostSideKept.refl s with regs := fun r => by cases r <;> rfl, wave := ⟨_, rfl⟩ }

theorem hostSideKept_of_updates {s t : State} (h : Updates s t) : HostSideKept s t := by
  induction h with
  | refl => exact .refl s
  | tail _ hupdate ih => exact ih.trans hupdate.hostSideKept

theorem hostSideKept_of_exec {i : Instr} {s t : State} (h : exec i s = .next t) : HostSideKept s t := by
  by_cases hcommand : isCommand i = true
  · by_cases hi : i = .init
    · subst hi
      cases h
      exact hostSideKept_initOp s
    · exact hostSideKept_of_updates (updates_of_command hcommand hi h)
  · cases i with
    | cen | cdis => cases h; exact { HostSideKept.refl s with regs := fun r => by cases r <;> rfl }
    | dly n => cases h; exact hostSideKept_dly n s
    | _ => exact absurd rfl hcommand

/-- Settles O54: every update of a chain keeps what `WAVE` holds at its beginning. -/
theorem waveOnlyGrows : Obligations.WaveOnlyGrows :=
  fun _ _ _ h => (hostSideKept_of_exec h).wave

/-- Settles O55: no update of a chain writes the host's side of the state. -/
theorem operandsAndHostStateAreNotWritten : Obligations.OperandsAndHostStateAreNotWritten := by
  intro i s t h
  obtain ⟨hregs, hopname, hopnameLen, hport, huport, _⟩ := hostSideKept_of_exec h
  exact ⟨hregs, hopname, hopnameLen, hport, huport⟩

/-! ## The uninitialised block (R17, R18, R156) -/

/-- No update leaves the uninitialised state or reaches the pin from it. -/
theorem Update.silent {s t : State} (h : Update s t) (hinit : s.init = false) : t.init = false ∧ t.wave = s.wave := by
  cases h with
  | raise | result | attempt | configure | storeFrame => exact ⟨hinit, rfl⟩
  | hwFailed => exact ⟨rfl, rfl⟩
  | setToggle P v => simp [hinit]
  | gap _ hon | emit _ hon => simp [hinit] at hon

theorem silent_of_updates {s t : State} (h : Updates s t) (hinit : s.init = false) :
    t.init = false ∧ t.wave = s.wave := by
  induction h with
  | refl => exact ⟨hinit, rfl⟩
  | tail _ hupdate ih =>
    obtain ⟨hoff, hwave⟩ := ih
    obtain ⟨hoff', hwave'⟩ := hupdate.silent hoff
    exact ⟨hoff', hwave'.trans hwave⟩

/-- INIT appends nothing to `WAVE`, and leaves an initialised block behind only when it ends OK (R119). -/
theorem initOp_silent {s : State} (hinit : s.init = false) :
    (initOp params s).wave = s.wave ∧ ((initOp params s).init = true → (initOp params s).err = 0) := by
  obtain ⟨_, heq⟩ | ⟨_, _, _, heq⟩ | ⟨_, _, _, heq⟩ := initOp_cases params s <;> rw [heq]
  · exact ⟨rfl, fun hon => by simp [hinit] at hon⟩
  · exact ⟨rfl, fun _ => rfl⟩
  · exact ⟨rfl, nofun⟩

/-- Settles O58: INIT by its cases, any other operation as a chain of silent updates. -/
theorem onlyInitLeavesTheUninitialisedState : Obligations.OnlyInitLeavesTheUninitialisedState := by
  intro i s t hcommand h hinit
  by_cases hi : i = .init
  · subst hi
    cases h
    obtain ⟨hwave, herr⟩ := initOp_silent hinit
    exact ⟨hwave, fun hon => ⟨rfl, herr hon⟩⟩
  · obtain ⟨hoff, hwave⟩ := silent_of_updates (updates_of_command hcommand hi h) hinit
    exact ⟨hwave, fun hon => by simp [hoff] at hon⟩

end Sys2Proof.Machine
end

section
/-! PROOFS. The host between operations, the reset state, and the invariant of the machine (10_state R33, R34): each
kind of step keeps it. -/

namespace Sys2Proof.Machine

/-! ## The host's writes between operations (R14, R15, R22, R26) -/

theorem getReg_setReg (r r' : OpReg) (v : Word) (s : State) :
    getReg r' (setReg r v s) = if r' = r then v else getReg r' s := by
  cases r <;> cases r' <;> rfl

theorem getReg_takeAction (r : OpReg) (rest : List HostAction) (s : State) :
    getReg r (takeAction rest s) = getReg r s := by
  cases r <;> rfl

/-- The frame of a write of an operand register: only operand registers can differ. -/
theorem setReg_frame (r : OpReg) (v : Word) (s : State) :
    setReg r v s = { s with
      opa := (setReg r v s).opa, opc := (setReg r v s).opc, opcap := (setReg r v s).opcap,
      oplen := (setReg r v s).oplen, opfreq := (setReg r v s).opfreq, opduty := (setReg r v s).opduty } := by
  cases r <;> rfl

/-- FROMNAME reads the name that the host has just written (R15, R71). -/
theorem operandName_setName {bytes : List Byte} (hlen : bytes.length < 2 ^ 32) (s : State) :
    operandName (setName bytes s) = bytes := by
  refine List.ext_getElem (by simpa [operandName, setName] using hlen) fun k _ hk => ?_
  simp [operandName, setName, List.getElem?_append_left hk, hk]

/-- Settles O8: each write of the host is one update of the state, whose frame and read-back are stated above. -/
theorem hostWritesBetweenOperations : Obligations.HostWritesBetweenOperations := by
  intro s rest huport hphase
  refine ⟨fun r v hport => ?setReg, fun v hport => ?setIe, fun i v hport hi hwf => ?setSym,
    fun i v hport hi => ?noSuchSymbol, fun bytes hport hlen => ?setName, fun bytes hport hlen => ?nameTooLong⟩
  all_goals rw [step_of_hostAction huport hphase hport]
  case setReg =>
    have hget := getReg_setReg r (v := v) (s := takeAction rest s)
    refine ⟨_, rfl, (hget r).trans (if_pos rfl), fun r' hne => ?_, setReg_frame r v (takeAction rest s)⟩
    exact ((hget r').trans (if_neg hne)).trans (getReg_takeAction r' rest s)
  case setIe => rfl
  case setSym =>
    have hget := symGet_symSet s.sym i.toNat (v := v) (lo := 0) (h := hwf)
    refine ⟨_, if_pos hi, ?_, fun k hk => ?_, rfl⟩
    · exact (hget _).trans (if_pos rfl)
    · exact (hget k).trans (if_neg (Ne.symm hk))
  case noSuchSymbol => exact if_neg (Nat.not_lt.2 hi)
  case setName =>
    exact ⟨_, if_pos hlen, operandName_setName (hlen.trans_lt params_legal.nameMax_lt) _, rfl⟩
  case nameTooLong => exact if_neg (Nat.not_le.2 hlen)

/-! ## The state after reset (R34) -/

/-- Settles O10: the values that `State.reset` writes out, register by register. -/
theorem resetLeavesTheSpecifiedValues : Obligations.ResetLeavesTheSpecifiedValues := by
  have hregs : ∀ r, getReg r State.reset = 0 := fun r => by cases r <;> rfl
  exact ⟨rfl, rfl, rfl, rfl, rfl, rfl, rfl, rfl, rfl, hregs, rfl, rfl, rfl, rfl, rfl, fun _ => rfl⟩

/-- Settles O60: the reset state is idle with the carrier off, and every bounded register is 0. -/
theorem resetMeetsTheInvariant : Obligations.ResetMeetsTheInvariant where
  idleCarrier _ := rfl
  carrierInit := nofun
  faultInit := nofun
  symLen := Nat.zero_le _
  duty := Nat.zero_le _
  freq := nofun
  err := Nat.zero_le _
  name := Nat.zero_le _
  nameBytes := Nat.zero_le _
  symWf := rfl
  symBelow := rfl
  idleWords _ := rfl
  busy h := absurd rfl h
  markWords := nofun
  spaceWords := nofun

/-! ## The invariant between operations -/

/-- The invariant holds and the block is between two operations. -/
structure AtRest (s : State) : Prop extends Inv s where
  idle : s.phase = .idle

theorem AtRest.carrierOff {s : State} (h : AtRest s) : s.carrier = false := h.idleCarrier h.idle

theorem AtRest.noWords {s : State} (h : AtRest s) : s.uport = [] := h.idleWords h.idle

theorem AtRest.not_mark {s : State} (h : AtRest s) : s.phase ≠ .mark := by simp [h.idle]

theorem AtRest.not_space {s : State} (h : AtRest s) : s.phase ≠ .space := by simp [h.idle]

theorem resultCode_le (e : ResultCode) : (resultCode e).toNat ≤ 6 := by
  cases e <;> decide

theorem atRest_raise {s : State} (h : AtRest s) (e : ResultCode) : AtRest (raise e s) :=
  { h with err := resultCode_le e }

theorem atRest_storeFrame {F : List Symbol} (hF : F.length ≤ params.nsym) {s : State} (h : AtRest s) :
    AtRest (storeFrame F s) :=
  { h with
    symLen := by
      show (BitVec.ofNat 32 F.length).toNat ≤ params.nsym
      rw [BitVec.toNat_ofNat]
      exact (Nat.mod_le _ _).trans hF
    symWf := wf_memWrite F h.symWf 0
    symBelow := symBelow_memWrite F h.symBelow (by omega) }

theorem atRest_hwFailed {s : State} (h : AtRest s) : AtRest (hwFailed s) :=
  { h with
    carrierInit := fun hon => absurd hon (by simp [hwFailed, h.carrierOff])
    faultInit := fun _ => rfl
    freq := nofun
    busy := fun hbusy => absurd h.idle hbusy }

theorem atRest_configure {f : Word} {d : Duty} (hf : f ≠ 0) (hd : d.toNat ≤ 100) {s : State} (h : AtRest s) :
    AtRest (configure f d s) :=
  { h with
    duty := hd
    freq := fun _ => hf
    markWords := fun hmark => absurd hmark h.not_mark }

theorem atRest_setToggle (P : Proto) (v : Bool) {s : State} (h : AtRest s) : AtRest (setToggle P v s) := by
  cases P with
  | rc5 | rc6 => exact { h with }
  | _ => exact h

/-- A frame leaves the block idle with the carrier off, as it was before (R122, R124). -/
theorem atRest_emit (S : List Symbol) {s : State} (h : AtRest s) : AtRest (emit S s) := by
  have hoff : (emitted S s).carrier = false := by simp [emitted, h.carrierOff]
  rw [emit_eq_emitted]
  exact { h with
    idle := rfl
    idleCarrier := fun _ => hoff
    carrierInit := fun hon => absurd hon (by simp [hoff])
    idleWords := fun _ => h.noWords
    busy := fun hbusy => absurd rfl hbusy
    markWords := nofun
    spaceWords := nofun }

theorem Update.atRest {s t : State} (hupdate : Update s t) (h : AtRest s) : AtRest t := by
  cases hupdate with
  | raise e => exact atRest_raise h e
  | result | attempt | gap => exact { h with }
  | hwFailed => exact atRest_hwFailed h
  | configure hf hd => exact atRest_configure hf hd h
  | storeFrame hF => exact atRest_storeFrame hF h
  | setToggle P v => exact atRest_setToggle P v h
  | emit S => exact atRest_emit S h

theorem atRest_of_updates {s t : State} (hupdates : Updates s t) (h : AtRest s) : AtRest t := by
  induction hupdates with
  | refl => exact h
  | tail _ hupdate ih => exact hupdate.atRest ih

theorem atRest_carrierOff {s : State} (h : AtRest s) : AtRest { s with carrier := false } :=
  { h with
    idleCarrier := fun _ => rfl
    carrierInit := nofun
    markWords := fun hmark => absurd hmark h.not_mark
    spaceWords := fun hspace => absurd hspace h.not_space }

/-- A block with a carrier frequency may become initialised (R17, R33). -/
theorem atRest_initialised {s : State} (hfreq : s.cfreq ≠ 0) (h : AtRest s) :
    AtRest { s with carrier := false, init := true, fault := false } :=
  { atRest_carrierOff h with
    carrierInit := nofun
    faultInit := nofun
    freq := fun _ => hfreq
    busy := fun hbusy => absurd h.idle hbusy }

/-- INIT (R119): a carrier in range and no fault, or a fault and no carrier. -/
theorem atRest_initOp {s : State} (h : AtRest s) : AtRest (initOp params s) := by
  have hattempt : AtRest (attempt s) := { h with }
  obtain ⟨_, heq⟩ | ⟨hfreq, hduty, _, heq⟩ | ⟨_, _, _, heq⟩ := initOp_cases params s <;> rw [heq]
  · exact atRest_raise h _
  · have hconf := atRest_configure hfreq (setWidth_duty_le hduty) hattempt
    exact atRest_raise (atRest_initialised hfreq hconf) _
  · exact atRest_raise (atRest_carrierOff (atRest_hwFailed hattempt)) _

theorem atRest_of_command {i : Instr} {s t : State} (hcommand : isCommand i = true) (h : AtRest s)
    (hexec : exec i s = .next t) : AtRest t := by
  by_cases hi : i = .init
  · subst hi
    cases hexec
    exact atRest_initOp h
  · exact atRest_of_updates (updates_of_command hcommand hi hexec) h

/-! ## A command word is never a micro-operation (R54) -/

theorem checkReserved_ok {w : BitVec 32} {r : Except Illegal Instr} {i : Instr} (h : checkReserved w r = .ok i) :
    r = .ok i := by
  unfold checkReserved at h
  split at h
  · exact h
  · cases h

theorem isCommand_of_decodeFrameOp {w : BitVec 32} {var3 i : Instr} {mk : Proto → SonyVar → Instr}
    (hvar3 : isCommand var3 = true) (hmk : ∀ p v, isCommand (mk p v) = true)
    (h : decodeFrameOp w var3 mk = .ok i) : isCommand i = true := by
  unfold decodeFrameOp at h
  split at h
  · cases h; exact hvar3
  · split at h
    · cases h; exact hmk _ _
    · cases h
  · split at h <;> cases h

theorem isCommand_encodeInstr (p : Proto) (v : SonyVar) (tgl rpt ext : Bool) :
    isCommand (encodeInstr p v tgl rpt ext) = true := by
  cases p with
  | nec => cases rpt <;> rfl
  | sony => cases v <;> rfl
  | rc5 => cases ext <;> rfl
  | _ => rfl

theorem isCommand_sendInstr (p : Proto) (v : SonyVar) (tgl auto rpt ext : Bool) :
    isCommand (sendInstr p v tgl auto rpt ext) = true := by
  cases p with
  | nec => cases rpt <;> rfl
  | sony => cases v <;> rfl
  | rc5 => cases ext <;> rfl
  | _ => rfl

theorem isCommand_sendnInstr (p : Proto) (v : SonyVar) (tgl auto rpt ext : Bool) :
    isCommand (sendnInstr p v tgl auto rpt ext) = true := by
  cases p with
  | nec => cases rpt <;> rfl
  | sony => cases v <;> rfl
  | rc5 => cases ext <;> rfl
  | _ => rfl

theorem isCommand_of_decodeRsttgl {w : BitVec 32} {i : Instr} (h : decodeRsttgl w = .ok i) : isCommand i = true := by
  unfold decodeRsttgl at h
  split at h <;> cases h <;> rfl

theorem isCommand_of_decodeCommand {w : BitVec 32} {i : Instr} (h : decodeCommand w = .ok i) :
    isCommand i = true := by
  unfold decodeCommand at h
  split at h
  case h_4 => exact isCommand_of_decodeFrameOp rfl (fun p v => isCommand_encodeInstr p v _ _ _) h
  case h_6 => exact isCommand_of_decodeFrameOp rfl (fun p v => isCommand_sendInstr p v _ _ _ _) h
  case h_7 => exact isCommand_of_decodeRsttgl (checkReserved_ok h)
  case h_8 => exact isCommand_of_decodeFrameOp rfl (fun p v => isCommand_sendnInstr p v _ _ _ _) h
  case h_1 | h_2 | h_3 | h_5 => cases checkReserved_ok h; rfl
  all_goals cases h; rfl

/-- A command word presented between operations, whether it decodes or not (R52, R64). -/
theorem atRest_of_runWord {w : BitVec 32} {s t : State} (h : AtRest s) (hrun : runWord (.cw w) s = .next t) :
    AtRest t := by
  unfold runWord at hrun
  split at hrun
  · rename_i i hdecode
    exact atRest_of_command (isCommand_of_decodeCommand hdecode) h hrun
  · rename_i e _
    cases e with
    | reservedBits | noSuchProtocol => cases hrun; exact atRest_of_updates (updates_raiseIllegal _ _ _ s) h
    | noToggleBit => cases hrun; exact atRest_raise h _
    | microNone | microOperand => cases hrun

/-! ## The host's actions keep the invariant -/

theorem inv_setReg (r : OpReg) (v : Word) {s : State} (h : Inv s) : Inv (setReg r v s) := by
  cases r <;> exact { h with }

/-- `OPNAME` never holds more bytes than the longer of the old name and the new one (R15). -/
theorem inv_hostSetName {bytes : List Byte} {s t : State} (h : Inv s) (ht : hostSetName params bytes s = .next t) :
    Inv t := by
  unfold hostSetName at ht
  split at ht
  · rename_i hlen
    cases ht
    exact { h with
      name := by
        show (BitVec.ofNat 32 bytes.length).toNat ≤ params.nameMax
        rw [BitVec.toNat_ofNat]
        exact (Nat.mod_le _ _).trans hlen
      nameBytes := by
        have hbytes := h.nameBytes
        show (bytes ++ s.opname.drop bytes.length).length ≤ params.nameMax
        rw [List.length_append, List.length_drop]
        omega }
  · cases ht

theorem inv_hostSetSym {i : Word} {v : Symbol} {s t : State} (h : Inv s) (ht : hostSetSym params i v s = .next t) :
    Inv t := by
  unfold hostSetSym at ht
  split at ht
  · rename_i hi
    cases ht
    exact { h with symWf := wf_symSet h.symWf _ v, symBelow := symBelow_symSet h.symBelow hi v }
  · cases ht

/-- The reset event (R154), in every phase. -/
theorem inv_resetEvent (s : State) : Inv (resetEvent s) :=
  { resetMeetsTheInvariant with busy := fun hbusy => absurd rfl hbusy }

theorem inv_of_runAction {a : HostAction} {s t : State} (h : AtRest s) (hrun : runAction a s = .next t) : Inv t := by
  cases a with
  | setReg r v => cases hrun; exact inv_setReg r v h.toInv
  | setName bytes => exact inv_hostSetName h.toInv hrun
  | setSym i v => exact inv_hostSetSym h.toInv hrun
  | setIe v => cases hrun; exact { h with busy := fun hbusy => absurd h.idle hbusy }
  | command w => exact (atRest_of_runWord h hrun).toInv
  | reset => cases hrun; exact inv_resetEvent s

/-! ## A transmission in progress keeps the invariant (R121, R125) -/

theorem runWord_cenWord (d : Duty) (s : State) : runWord (.uw (cenWord d)) s = .next (cen d s) :=
  runWord_of_decode_ok (c := .uw _) (decodeMicro_cenWord d) s

theorem runWord_cdisWord (s : State) : runWord (.uw cdisWord) s = .next (cdis s) :=
  runWord_of_decode_ok (c := .uw cdisWord) decodeMicro_cdisWord s

theorem runWord_dlyWord (n : Word) (s : State) : runWord (.uw (dlyWord n)) s = .next (dly n s) :=
  runWord_of_decode_ok (c := .uw _) (decodeMicro_dlyWord n) s

/-- One micro-operation of a phase has been taken: what is left to take is the DLY of the phase or nothing, and the
carrier is on in a mark phase and off in a space phase. -/
theorem inv_microTaken {s : State} (h : Inv s) (hbusy : s.phase ≠ .idle) {n : Word} {us : List (BitVec 34)}
    (hus : us = [dlyWord n] ∨ us = []) {c : Bool} (hmark : s.phase = .mark → c = true)
    (hspace : s.phase = .space → c = false) (r : Word) (W : List WaveItem) :
    Inv { s with carrier := c, uport := us, rem := r, wave := W } :=
  { h with
    idleCarrier := fun hidle => absurd hidle hbusy
    carrierInit := fun _ => (h.busy hbusy).1
    idleWords := fun hidle => absurd hidle hbusy
    markWords := fun hp => ⟨n, .inr ⟨hmark hp, hus⟩⟩
    spaceWords := fun hp => ⟨n, .inr ⟨hspace hp, hus⟩⟩ }

theorem inv_of_microStep {u : BitVec 34} {us : List (BitVec 34)} {s t : State} (h : Inv s) (huport : s.uport = u :: us)
    (hrun : runWord (.uw u) (takeMicro u us s) = .next t) : Inv t := by
  have hbusy : s.phase ≠ .idle := fun hidle => by simp [h.idleWords hidle] at huport
  cases hphase : s.phase with
  | idle => exact absurd hphase hbusy
  | mark =>
    obtain ⟨n, hwords | ⟨hon, hwords | hwords⟩⟩ := h.markWords hphase
    · obtain ⟨rfl, rfl⟩ := List.cons.inj (huport.symm.trans hwords)
      rw [runWord_cenWord] at hrun
      cases hrun
      exact inv_microTaken h hbusy (.inl rfl) (fun _ => rfl) (fun hp => by simp [hphase] at hp) _ _
    · obtain ⟨rfl, rfl⟩ := List.cons.inj (huport.symm.trans hwords)
      rw [runWord_dlyWord] at hrun
      cases hrun
      exact inv_microTaken (n := n) h hbusy (.inr rfl) (fun _ => hon) (fun hp => by simp [hphase] at hp) _ _
    · simp [huport] at hwords
  | space =>
    obtain ⟨n, hwords | ⟨hoff, hwords | hwords⟩⟩ := h.spaceWords hphase
    · obtain ⟨rfl, rfl⟩ := List.cons.inj (huport.symm.trans hwords)
      rw [runWord_cdisWord] at hrun
      cases hrun
      exact inv_microTaken h hbusy (.inl rfl) (fun hp => by simp [hphase] at hp) (fun _ => rfl) _ _
    · obtain ⟨rfl, rfl⟩ := List.cons.inj (huport.symm.trans hwords)
      rw [runWord_dlyWord] at hrun
      cases hrun
      exact inv_microTaken (n := n) h hbusy (.inr rfl) (fun hp => by simp [hphase] at hp) (fun _ => hoff) _ _
    · simp [huport] at hwords

/-- The sequencer issues the words of the next phase, at an index inside the sequence. -/
theorem inv_phaseIssued {s : State} (h : Inv s) (hbusy : s.phase ≠ .idle) {ph : Phase} (hph : ph ≠ .idle) {i : Nat}
    (hi : i < s.len.toNat) {n : Word} {us : List (BitVec 34)} (hmark : ph = .mark → us = markWords s.cduty n)
    (hspace : ph = .space → us = spaceWords n) : Inv { startPhase ph i n s with uport := us } := by
  obtain ⟨hinit, hie, _, hlen⟩ := h.busy hbusy
  have hidx : (BitVec.ofNat 32 i).toNat < s.len.toNat := by
    rw [BitVec.toNat_ofNat]
    exact (Nat.mod_le _ _).trans_lt hi
  exact { h with
    idleCarrier := fun hidle => absurd hidle hph
    carrierInit := fun _ => hinit
    idleWords := fun hidle => absurd hidle hph
    busy := fun _ => ⟨hinit, hie, hidx, hlen⟩
    markWords := fun hp => ⟨n, .inl (hmark hp)⟩
    spaceWords := fun hp => ⟨n, .inl (hspace hp)⟩ }

/-- A space phase with no word left has switched the carrier off. -/
theorem carrier_off_of_space_done {s : State} (h : Inv s) (hphase : s.phase = .space) (huport : s.uport = []) :
    s.carrier = false := by
  obtain ⟨n, hwords | ⟨hoff, _⟩⟩ := h.spaceWords hphase
  · simp [huport, spaceWords] at hwords
  · exact hoff

/-- The end of a transmission (R125 row 5). -/
theorem inv_endSeq {s : State} (h : Inv s) (hoff : s.carrier = false) (huport : s.uport = []) : Inv (endSeq s) :=
  { h with
    idleCarrier := fun _ => hoff
    err := resultCode_le .ok
    idleWords := fun _ => huport
    busy := fun hbusy => absurd rfl hbusy
    markWords := nofun
    spaceWords := nofun }

theorem inv_of_advanceSeq {s t : State} (h : Inv s) (huport : s.uport = []) (hrun : advanceSeq s = .next t) :
    Inv t := by
  unfold advanceSeq at hrun
  split at hrun
  case h_1 => cases hrun; exact h
  case h_2 hphase =>
    have hbusy : s.phase ≠ .idle := by simp [hphase]
    obtain ⟨_, _, hidx, _⟩ := h.busy hbusy
    split at hrun
    · cases hrun
    · cases hrun
      exact inv_phaseIssued (ph := .space) h hbusy nofun hidx nofun fun _ => rfl
  case h_3 hphase =>
    have hbusy : s.phase ≠ .idle := by simp [hphase]
    split at hrun
    · rename_i hnext
      split at hrun
      · cases hrun
      · cases hrun
        exact inv_phaseIssued (ph := .mark) h hbusy nofun hnext (fun _ => rfl) nofun
    · cases hrun
      exact inv_endSeq h (carrier_off_of_space_done h hphase huport) huport

/-! ## Every step -/

/-- Settles O59, by what the step takes: a waiting micro-operation word, the host's action, or the sequencer's next
move. -/
theorem everyStepKeepsTheInvariant : Obligations.EveryStepKeepsTheInvariant := by
  intro s t h hstep
  unfold step runNext at hstep
  split at hstep
  case h_1 u us huport => exact inv_of_microStep h huport hstep
  case h_2 a rest huport hport =>
    split at hstep
    · rename_i hallowed
      obtain hidle | rfl := hallowed
      · have hrest : AtRest (takeAction rest s) := { h with idle := hidle }
        exact inv_of_runAction hrest hstep
      · cases hstep
        exact inv_resetEvent _
    · cases hstep
  case h_3 huport _ => exact inv_of_advanceSeq h huport hstep

end Sys2Proof.Machine
end

section
/-! PROOFS. The family of 20_memory: what the host may not do while the sequencer reads the buffer, and what becomes of
a TRANSMIT that would read an entry nothing has written. -/

namespace Sys2Proof.Machine

/-! ## The host's access during a transmission -/

/-- While the sequencer is at work and none of its words waits, the host's next action is refused and not run, the reset
event excepted (20_memory R44, R45). -/
theorem step_of_overlappedAction {s : State} {a : HostAction} {rest : List HostAction} (huport : s.uport = [])
    (hport : s.port = a :: rest) (hbusy : s.phase ≠ .idle) (hreset : a ≠ .reset) :
    step s = .refused .overlappedOperation := by
  simp only [step, runNext, huport, hport, if_neg (not_or.2 ⟨hbusy, hreset⟩)]

/-- Settles O9. -/
theorem hostAccessDuringATransmissionIsRefused : Obligations.HostAccessDuringATransmissionIsRefused :=
  fun _ _ _ huport hport hbusy hreset => step_of_overlappedAction huport hport hbusy hreset

/-! ## Reading a range that is not written throughout -/

/-- A read stops at the first entry of its range that nothing has written, and names it (20_memory R36, R43). -/
theorem memRead_of_firstUnwritten {m : SymMem} {i d n : Nat} (hd : d < n) (hnone : symGet m (i + d) = none)
    (hbefore : ∀ j, j < d → symGet m (i + j) ≠ none) : memRead m i n = .error (i + d) := by
  induction n generalizing i d with
  | zero => omega
  | succ n ih =>
    cases d with
    | zero => simp only [memRead, show symGet m i = none from hnone, Nat.add_zero]
    | succ d =>
      obtain ⟨v, hv⟩ := Option.ne_none_iff_exists'.1 (hbefore 0 (by omega))
      have hrest : memRead m (i + 1) n = .error (i + 1 + d) := by
        refine ih (by omega) (by rwa [Nat.add_right_comm]) fun j hj => ?_
        rw [Nat.add_right_comm]
        exact hbefore (j + 1) (by omega)
      simp only [memRead, show symGet m i = some v from hv, hrest, Nat.add_right_comm, ← Nat.add_assoc]

/-! ## TRANSMIT with its checks passed (43_carrier R120) -/

/-- What TRANSMIT checks before it configures the carrier: its operands, then `INIT` (R120 steps 2 and 3). -/
structure TransmitReady (p : Params) (s : State) : Prop where
  freq : s.opfreq ≠ 0
  duty : s.opduty.toNat ≤ 100
  len : s.oplen.toNat ≤ p.nsym
  init : s.init = true

theorem TransmitReady.operandsInRange {p : Params} {s : State} (h : TransmitReady p s) :
    ¬ (s.opfreq = 0 ∨ 100 < s.opduty.toNat ∨ p.nsym < s.oplen.toNat) :=
  not_or.2 ⟨h.freq, not_or.2 ⟨h.duty.not_gt, h.len.not_gt⟩⟩

/-- When the peripheral refuses the configuration, nothing of the buffer is read. -/
theorem transmitOp_of_hwFails {p : Params} {s : State} (h : TransmitReady p s) (hhw : p.hwOk s.draws = false) :
    transmitOp p s = .next (raise .hwFailure (hwFailed (attempt s))) := by
  simp only [transmitOp, if_neg h.operandsInRange, h.init, hhw, reduceCtorEq, if_false]

/-- After the configuration step a read that fails ends the operation in its fault. -/
theorem transmitOp_of_memRead_error {p : Params} {s : State} (h : TransmitReady p s) (hhw : p.hwOk s.draws = true)
    {k : Nat} (hread : memRead s.sym 0 s.oplen.toNat = .error k) : transmitOp p s = .fault (.unwrittenSymbol k) := by
  simp only [transmitOp, if_neg h.operandsInRange, h.init, hhw, hread, reduceCtorEq, if_false, if_true]

theorem exec_transmit (s : State) : exec .transmit s = transmitOp params s := rfl

/-- Settles O36, by the peripheral's answer. -/
theorem transmitFaultsOnAnUnwrittenEntry : Obligations.TransmitFaultsOnAnUnwrittenEntry := by
  intro s k hfreq hduty hlen hinit hk hnone hbefore
  have hready : TransmitReady params s := ⟨hfreq, hduty, hlen, hinit⟩
  rw [exec_transmit]
  cases hhw : params.hwOk s.draws with
  | true =>
    have hread : memRead s.sym 0 s.oplen.toNat = .error (0 + k) :=
      memRead_of_firstUnwritten hk (by rwa [Nat.zero_add]) fun j hj => by rw [Nat.zero_add]; exact hbefore j hj
    rw [transmitOp_of_memRead_error hready hhw hread, Nat.zero_add, if_pos rfl]
  | false =>
    rw [transmitOp_of_hwFails hready hhw, if_neg Bool.false_ne_true]
    rfl

end Sys2Proof.Machine
end

section
/-! PROOFS. The decoder, a rule per operation code: what the fields of a command word decide. ENCODE, SEND and SENDN are
one operation in three forms (`FrameOp`). From these rules the family of 30_encoding. -/

namespace Sys2Proof

/-! ## ENCODE, SEND and SENDN as one operation -/

/-- The three operations that produce a frame (R54). -/
inductive FrameOp where
  | encode | send | sendn

namespace FrameOp

/-- The operation code (R54). -/
def code : FrameOp → BitVec 4
  | encode => 4
  | send => 6
  | sendn => 8

/-- The row of the reserved Sony variant (R64). -/
def var3 : FrameOp → Instr
  | encode => .encodeSonyVar3
  | send => .sendSonyVar3
  | sendn => .sendnSonyVar3

/-- The row that the fields of a legal word select, with the operands it reads (R53, R54); ENCODE reads no `auto`. -/
def instr : FrameOp → Proto → SonyVar → (tgl auto rpt ext : Bool) → Instr
  | encode, P, v, tgl, _, rpt, ext => encodeInstr P v tgl rpt ext
  | send, P, v, tgl, auto, rpt, ext => sendInstr P v tgl auto rpt ext
  | sendn, P, v, tgl, auto, rpt, ext => sendnInstr P v tgl auto rpt ext

theorem exists_code {op : BitVec 4} (h : op = 4 ∨ op = 6 ∨ op = 8) : ∃ o : FrameOp, op = o.code := by
  obtain rfl | rfl | rfl := h
  · exact ⟨encode, rfl⟩
  · exact ⟨send, rfl⟩
  · exact ⟨sendn, rfl⟩

theorem code_ne_four {o : FrameOp} (ho : o ≠ encode) : o.code ≠ 4 := by
  cases o with
  | encode => exact absurd rfl ho
  | send | sendn => decide

/-- Two sets of fields that agree where the protocol reads them select the same instruction (R53). -/
theorem instr_congr (o : FrameOp) (P : Proto) {v v' : SonyVar} {tgl tgl' auto auto' rpt rpt' ext ext' : Bool}
    (hrpt : rpt = rpt') (hvar : P = .sony → v = v')
    (htgl : P = .rc5 ∨ P = .rc6 → tgl = tgl' ∧ (o ≠ encode → auto = auto')) (hext : P = .rc5 → ext = ext') :
    o.instr P v tgl auto rpt ext = o.instr P v' tgl' auto' rpt' ext' := by
  subst hrpt
  cases P with
  | sony => rw [hvar rfl]; cases o <;> rfl
  | rc5 =>
    obtain ⟨rfl, hauto⟩ := htgl (.inl rfl)
    obtain rfl := hext rfl
    cases o with
    | encode => rfl
    | send | sendn => rw [hauto nofun]; rfl
  | rc6 =>
    obtain ⟨rfl, hauto⟩ := htgl (.inr rfl)
    cases o with
    | encode => rfl
    | send | sendn => rw [hauto nofun]; rfl
  | _ => cases o <;> rfl

end FrameOp

/-! ## The Sony variant (R52, R92) -/

/-- The value of `var` for a Sony variant. -/
def sonyVarBits : SonyVar → BitVec 2
  | .v12 => 0
  | .v15 => 1
  | .v20 => 2

@[simp] theorem sonyVarOfBits_sonyVarBits (v : SonyVar) : sonyVarOfBits (sonyVarBits v) = some v := by
  cases v <;> rfl

theorem sonyVarBits_ne_three (v : SonyVar) : sonyVarBits v ≠ 3 := by
  cases v <;> decide

/-- Only the value 3 of `var` is reserved. -/
theorem sonyVarOfBits_eq_none_iff (x : BitVec 2) : sonyVarOfBits x = none ↔ x = 3 := by
  revert x
  decide

/-- The variant that a word selects; one of another protocol than SONY may hold anything there. -/
def wordVar (w : BitVec 32) : SonyVar := (sonyVarOfBits (cwVar w)).getD .v12

/-! ## Decoding, a rule per operation code (R54) -/

section
variable {w : BitVec 32}

theorem decode_init (hop : cwOp w = 1) : decode (.cw w) = checkReserved w (.ok .init) := by
  simp [decode, decodeCommand, hop]

theorem decode_getinfo (hop : cwOp w = 2) : decode (.cw w) = checkReserved w (.ok (.getinfo (cwProto w))) := by
  simp [decode, decodeCommand, hop]

theorem decode_fromname (hop : cwOp w = 3) : decode (.cw w) = checkReserved w (.ok .fromname) := by
  simp [decode, decodeCommand, hop]

theorem decode_transmit (hop : cwOp w = 5) : decode (.cw w) = checkReserved w (.ok .transmit) := by
  simp [decode, decodeCommand, hop]

theorem decode_rsttgl (hop : cwOp w = 7) : decode (.cw w) = checkReserved w (decodeRsttgl w) := by
  simp [decode, decodeCommand, hop]

theorem decode_frameOp {o : FrameOp} (hop : cwOp w = o.code) :
    decode (.cw w) =
      decodeFrameOp w o.var3 fun P v => o.instr P v (cwTgl w) (cwAuto w) (cwRpt w) (cwExt w) := by
  cases o <;> simp [decode, decodeCommand, hop, FrameOp.code, FrameOp.var3, FrameOp.instr]

/-- The reserved operation codes and their rows (R54, R64). -/
def reservedOps : List (BitVec 4 × Instr) :=
  [(0, .illegalOp0), (9, .illegalOp9), (10, .illegalOp10), (11, .illegalOp11), (12, .illegalOp12),
    (13, .illegalOp13), (14, .illegalOp14), (15, .illegalOp15)]

theorem decode_reservedOp {i : Instr} (h : (cwOp w, i) ∈ reservedOps) : decode (.cw w) = .ok i := by
  simp only [reservedOps, List.mem_cons, Prod.mk.injEq, List.not_mem_nil, or_false] at h
  obtain ⟨hop, rfl⟩ | ⟨hop, rfl⟩ | ⟨hop, rfl⟩ | ⟨hop, rfl⟩ | ⟨hop, rfl⟩ | ⟨hop, rfl⟩ | ⟨hop, rfl⟩ | ⟨hop, rfl⟩ := h <;>
    simp [decode, decodeCommand, hop]

end

/-- Every operation code is one of those above. -/
theorem opCode_cases (op : BitVec 4) :
    (op = 1 ∨ op = 2 ∨ op = 3 ∨ op = 5 ∨ op = 7) ∨ (op = 4 ∨ op = 6 ∨ op = 8) ∨ op ∈ reservedOps.map Prod.fst := by
  revert op
  decide

/-! ## The checks of the decoder (R64) -/

section
variable {w : BitVec 32}

theorem checkReserved_of_zero (hres : cwReserved w = 0) (r : Except Illegal Instr) : checkReserved w r = r :=
  if_pos hres

theorem checkReserved_of_ne_zero (hres : cwReserved w ≠ 0) (r : Except Illegal Instr) :
    checkReserved w r = .error (.reservedBits (cwOp w)) :=
  if_neg hres

theorem decodeRsttgl_of_no_toggle (hrc5 : cwProto w ≠ protoCode .rc5) (hrc6 : cwProto w ≠ protoCode .rc6) :
    decodeRsttgl w = .error (.noToggleBit (cwProto w)) := by
  unfold decodeRsttgl
  split
  · exact absurd (protoCode_of_protoOfCode ‹_›).symm hrc5
  · exact absurd (protoCode_of_protoOfCode ‹_›).symm hrc6
  · rfl

variable {var3 : Instr} {mk : Proto → SonyVar → Instr}

/-- The reserved Sony variant is its own row, before the reserved bits are looked at. -/
theorem decodeFrameOp_of_var3 (hproto : cwProto w = protoCode .sony) (hvar : cwVar w = 3) :
    decodeFrameOp w var3 mk = .ok var3 := by
  simp [decodeFrameOp, hproto, (sonyVarOfBits_eq_none_iff _).2 hvar]

theorem decodeFrameOp_of_reservedBits (hvar : ¬(cwProto w = protoCode .sony ∧ cwVar w = 3)) (hres : cwReserved w ≠ 0) :
    decodeFrameOp w var3 mk = .error (.reservedBits (cwOp w)) := by
  unfold decodeFrameOp
  split
  · exact absurd ⟨(protoCode_of_protoOfCode ‹_›).symm, (sonyVarOfBits_eq_none_iff _).1 ‹_›⟩ hvar
  · exact if_neg hres
  · exact if_neg hres

theorem decodeFrameOp_of_noSuchProtocol (hproto : 18 ≤ (cwProto w).toNat) (hres : cwReserved w = 0) :
    decodeFrameOp w var3 mk = .error (.noSuchProtocol (cwOp w) (cwProto w)) := by
  simp [decodeFrameOp, (protoOfCode_eq_none_iff _).2 hproto, hres]

theorem decodeFrameOp_of_legal {P : Proto} (hproto : cwProto w = protoCode P) (hvar : P = .sony → cwVar w ≠ 3)
    (hres : cwReserved w = 0) : decodeFrameOp w var3 mk = .ok (mk P (wordVar w)) := by
  unfold decodeFrameOp wordVar
  rw [hproto, protoOfCode_protoCode]
  split
  next hP hnone => cases hP; exact absurd ((sonyVarOfBits_eq_none_iff _).1 hnone) (hvar rfl)
  next hP _ => cases hP; exact if_pos hres
  next hP => cases hP

end

/-- What a word of ENCODE, SEND or SENDN can be, in the order in which the decoder asks (R64, 60_exceptions R141). -/
theorem frameWord_cases (w : BitVec 32) :
    (cwProto w = protoCode .sony ∧ cwVar w = 3) ∨
    (¬(cwProto w = protoCode .sony ∧ cwVar w = 3) ∧ cwReserved w ≠ 0) ∨
    (18 ≤ (cwProto w).toNat ∧ cwReserved w = 0) ∨
    ∃ P, cwProto w = protoCode P ∧ (P = .sony → cwVar w ≠ 3) ∧ cwReserved w = 0 := by
  by_cases hvar3 : cwProto w = protoCode .sony ∧ cwVar w = 3
  · exact .inl hvar3
  by_cases hres : cwReserved w = 0
  · cases hP : protoOfCode (cwProto w) with
    | none => exact .inr (.inr (.inl ⟨(protoOfCode_eq_none_iff _).1 hP, hres⟩))
    | some P =>
      have hcode : cwProto w = protoCode P := (protoCode_of_protoOfCode hP).symm
      exact .inr (.inr (.inr ⟨P, hcode, fun h h3 => hvar3 ⟨h ▸ hcode, h3⟩, hres⟩))
  · exact .inr (.inl ⟨hvar3, hres⟩)

/-! ## The round trip (R52, R54, R60) -/

/-- The word of an operation that takes no field but `proto` has its reserved bits 0. -/
theorem checkReserved_commandWord (op : BitVec 4) (proto : BitVec 5) (var : BitVec 2) (tgl auto rpt ext : Bool)
    (r : Except Illegal Instr) : checkReserved (commandWord op proto var tgl auto rpt ext) r = r :=
  checkReserved_of_zero (cwReserved_commandWord ..) r

/-- The word of an ENCODE, SEND or SENDN decodes to the row its fields select. -/
theorem decode_frameWord (o : FrameOp) (P : Proto) (var : BitVec 2) (tgl auto rpt ext : Bool)
    (hvar : P = .sony → var ≠ 3) :
    decode (frameWord o.code P var tgl auto rpt ext) =
      .ok (o.instr P ((sonyVarOfBits var).getD .v12) tgl auto rpt ext) := by
  rw [frameWord, decode_frameOp (cwOp_commandWord ..), decodeFrameOp_of_legal (cwProto_commandWord ..)]
  · simp [wordVar]
  · simpa using hvar
  · simp

theorem decode_frameWord_var3 (o : FrameOp) (tgl auto rpt ext : Bool) :
    decode (frameWord o.code .sony 3 tgl auto rpt ext) = .ok o.var3 := by
  rw [frameWord, decode_frameOp (cwOp_commandWord ..)]
  exact decodeFrameOp_of_var3 (cwProto_commandWord ..) (cwVar_commandWord ..)

theorem decode_plainWord_reservedOp {op : BitVec 4} {i : Instr} (h : (op, i) ∈ reservedOps) :
    decode (plainWord op 0) = .ok i :=
  decode_reservedOp (by rwa [cwOp_commandWord])

/-- The round trip, the operand of CEN in range or not. -/
theorem decode_encode (i : Instr) : decode (encode i) = .ok i := by
  cases i with
  | init => exact (decode_init (cwOp_commandWord ..)).trans (checkReserved_commandWord ..)
  | getinfo proto =>
    refine (decode_getinfo (cwOp_commandWord ..)).trans ?_
    rw [checkReserved_commandWord, cwProto_commandWord]
  | fromname => exact (decode_fromname (cwOp_commandWord ..)).trans (checkReserved_commandWord ..)
  | transmit => exact (decode_transmit (cwOp_commandWord ..)).trans (checkReserved_commandWord ..)
  | rsttglRc5 | rsttglRc6 =>
    refine (decode_rsttgl (cwOp_commandWord ..)).trans ?_
    rw [checkReserved_commandWord, decodeRsttgl, cwProto_commandWord, protoOfCode_protoCode]
  | encodeNec | encodeNecRpt | encodeNecExt _ | encodeSony12 _ | encodeSony15 _ | encodeSony20 _ | encodeRc5 _ _
  | encodeRc5X _ _ | encodeRc6 _ _ | encodeSamsung _ | encodePanasonic _ | encodeJvc _ | encodeLg _
  | encodeMitsubishi _ | encodeSharp _ | encodeDish _ | encodeAiwa _ | encodeDenon _ | encodeKaseikyo _
  | encodeWhynter _ | encodeCoolix _ | encodeGeneric _ => exact decode_frameWord .encode _ _ _ _ _ _ (by decide)
  | sendNec | sendNecRpt | sendNecExt _ | sendSony12 _ | sendSony15 _ | sendSony20 _ | sendRc5 _ _ _
  | sendRc5X _ _ _ | sendRc6 _ _ _ | sendSamsung _ | sendPanasonic _ | sendJvc _ | sendLg _ | sendMitsubishi _
  | sendSharp _ | sendDish _ | sendAiwa _ | sendDenon _ | sendKaseikyo _ | sendWhynter _ | sendCoolix _
  | sendGeneric _ => exact decode_frameWord .send _ _ _ _ _ _ (by decide)
  | sendnNec | sendnNecRpt | sendnNecExt _ | sendnSony12 _ | sendnSony15 _ | sendnSony20 _ | sendnRc5 _ _ _
  | sendnRc5X _ _ _ | sendnRc6 _ _ _ | sendnSamsung _ | sendnPanasonic _ | sendnJvc _ | sendnLg _
  | sendnMitsubishi _ | sendnSharp _ | sendnDish _ | sendnAiwa _ | sendnDenon _ | sendnKaseikyo _
  | sendnWhynter _ | sendnCoolix _ | sendnGeneric _ => exact decode_frameWord .sendn _ _ _ _ _ _ (by decide)
  | encodeSonyVar3 => exact decode_frameWord_var3 .encode _ _ _ _
  | sendSonyVar3 => exact decode_frameWord_var3 .send _ _ _ _
  | sendnSonyVar3 => exact decode_frameWord_var3 .sendn _ _ _ _
  | illegalOp0 | illegalOp9 | illegalOp10 | illegalOp11 | illegalOp12 | illegalOp13 | illegalOp14
  | illegalOp15 => exact decode_plainWord_reservedOp (by decide)
  | cen duty => exact decodeMicro_cenWord duty
  | cdis => exact decodeMicro_cdisWord
  | dly us => exact decodeMicro_dlyWord us

/-- Settles O1: the range that well-formedness gives the operand of CEN is not needed. -/
theorem decodeEncodeRoundTrip : Obligations.DecodeEncodeRoundTrip :=
  fun i _ => decode_encode i

theorem decode_of_eq_encode {c : CodeWord} {i : Instr} (h : c = encode i) : decode c = .ok i :=
  h ▸ decode_encode i

/-- Settles O4: each word is the one that the layouts of R52 and R60 give its instruction. -/
theorem sampleWordsDecode : Obligations.SampleWordsDecode := by
  refine ⟨?_, ?_, ?_, ?_, ?_, ?_, ?_, ?_, ?_, ?_, ?_, ?_⟩ <;> exact decode_of_eq_encode (by decide)

/-! ## What decoding does not read (R53) -/

section
variable {w w' : BitVec 32}

theorem checkReserved_congr (hop : cwOp w = cwOp w') (hres : cwReserved w = cwReserved w') (r : Except Illegal Instr) :
    checkReserved w r = checkReserved w' r := by
  simp only [checkReserved, hop, hres]

/-- ENCODE, SEND and SENDN read `op`, `proto`, `rpt` and the reserved bits, and the other fields where the protocol has
them. -/
theorem decode_frameOp_congr {o : FrameOp} (hop : cwOp w = o.code) (hop' : cwOp w' = o.code)
    (hres : cwReserved w = cwReserved w') (hproto : cwProto w = cwProto w') (hrpt : cwRpt w = cwRpt w')
    (hvar : cwProto w = protoCode .sony → cwVar w = cwVar w')
    (htgl : cwProto w = protoCode .rc5 ∨ cwProto w = protoCode .rc6 →
      cwTgl w = cwTgl w' ∧ (cwOp w ≠ 4 → cwAuto w = cwAuto w'))
    (hext : cwProto w = protoCode .rc5 → cwExt w = cwExt w') : decode (.cw w) = decode (.cw w') := by
  rw [decode_frameOp hop, decode_frameOp hop']
  obtain ⟨hsony, h3⟩ | ⟨hvar3, hne⟩ | ⟨hcode, hzero⟩ | ⟨P, hcode, hP3, hzero⟩ := frameWord_cases w
  · rw [decodeFrameOp_of_var3 hsony h3, decodeFrameOp_of_var3 (hproto ▸ hsony) (hvar hsony ▸ h3)]
  · have hvar3' : ¬(cwProto w' = protoCode .sony ∧ cwVar w' = 3) := fun ⟨hsony, h3⟩ =>
      hvar3 ⟨hproto.trans hsony, (hvar (hproto.trans hsony)).trans h3⟩
    rw [decodeFrameOp_of_reservedBits hvar3 hne, decodeFrameOp_of_reservedBits hvar3' (hres ▸ hne), hop, hop']
  · rw [decodeFrameOp_of_noSuchProtocol hcode hzero,
      decodeFrameOp_of_noSuchProtocol (hproto ▸ hcode) (hres ▸ hzero), hop, hop', hproto]
  · rw [decodeFrameOp_of_legal hcode hP3 hzero,
      decodeFrameOp_of_legal (hproto ▸ hcode) (fun h => hvar (h ▸ hcode) ▸ hP3 h) (hres ▸ hzero)]
    refine congrArg Except.ok (o.instr_congr P hrpt (fun h => ?_) (fun h => ?_) fun h => hext (h ▸ hcode))
    · rw [wordVar, wordVar, hvar (h ▸ hcode)]
    · obtain ⟨htgl, hauto⟩ := htgl (h.imp (fun hP : P = .rc5 => hP ▸ hcode) fun hP : P = .rc6 => hP ▸ hcode)
      exact ⟨htgl, fun ho => hauto (hop ▸ FrameOp.code_ne_four ho)⟩

end

/-- Settles O3, by operation code. -/
theorem decodeIgnoresFieldsNotRead : Obligations.DecodeIgnoresFieldsNotRead := by
  intro w w' hop hres hproto hframe
  obtain (h | h | h | h | h) | h | h := opCode_cases (cwOp w)
  · rw [decode_init h, decode_init (hop ▸ h), checkReserved_congr hop hres]
  · rw [decode_getinfo h, decode_getinfo (hop ▸ h), checkReserved_congr hop hres, hproto] <;> simp [h]
  · rw [decode_fromname h, decode_fromname (hop ▸ h), checkReserved_congr hop hres]
  · rw [decode_transmit h, decode_transmit (hop ▸ h), checkReserved_congr hop hres]
  · rw [decode_rsttgl h, decode_rsttgl (hop ▸ h), checkReserved_congr hop hres, decodeRsttgl, decodeRsttgl, hproto] <;>
      simp [h]
  · obtain ⟨hrpt, hvar, htgl, hext⟩ := hframe h
    obtain ⟨o, ho⟩ := FrameOp.exists_code h
    refine decode_frameOp_congr ho (hop ▸ ho) hres (hproto ?_ ?_ ?_) hrpt hvar htgl hext
    all_goals rw [ho]; cases o <;> decide
  · obtain ⟨⟨op, i⟩, hmem, rfl⟩ := List.mem_map.1 h
    rw [decode_reservedOp hmem, decode_reservedOp (hop ▸ hmem)]

end Sys2Proof
end

section
/-! PROOFS. The rows of spec/opcode_table.json: a word that fits a row has, in every field that the mask covers, the
bits of the row, and the rules of the decoder do the rest. -/

namespace Sys2Proof

/-! ## The rows of the opcode table (R54) -/

section
variable {n : Nat} {x mask bits : BitVec n}

/-- A field that the mask covers holds what the row says. -/
theorem extractLsb'_of_and_eq (h : x &&& mask = bits) {start len : Nat}
    (hmask : mask.extractLsb' start len = BitVec.allOnes len) :
    x.extractLsb' start len = bits.extractLsb' start len := by
  rw [← h, BitVec.extractLsb'_and, hmask, BitVec.and_allOnes]

theorem getLsbD_of_and_eq (h : x &&& mask = bits) {k : Nat} (hmask : mask.getLsbD k = true) :
    x.getLsbD k = bits.getLsbD k := by
  rw [← h, BitVec.getLsbD_and, hmask, Bool.and_true]

end

/-- A word is its high field before its low field. -/
theorem extractLsb'_append_extractLsb' (m n : Nat) (x : BitVec (m + n)) :
    x.extractLsb' n m ++ x.extractLsb' 0 n = x := by
  rw [BitVec.extractLsb'_append_extractLsb'_eq_extractLsb' (Nat.zero_add n).symm, BitVec.extractLsb'_eq_self]

theorem exists_of_fits_cw {r : OpcodeRow} {bits mask : BitVec 32} {c : CodeWord} (hpattern : r.pattern = .cw bits mask)
    (h : r.fits c = true) : ∃ w, c = .cw w ∧ w &&& mask = bits := by
  cases c with
  | cw w => exact ⟨w, rfl, by simpa [OpcodeRow.fits, hpattern] using h⟩
  | uw u => simp [OpcodeRow.fits, hpattern] at h

theorem exists_of_fits_uw {r : OpcodeRow} {bits mask : BitVec 34} {c : CodeWord} (hpattern : r.pattern = .uw bits mask)
    (h : r.fits c = true) : ∃ u, c = .uw u ∧ u &&& mask = bits := by
  cases c with
  | cw w => simp [OpcodeRow.fits, hpattern] at h
  | uw u => exact ⟨u, rfl, by simpa [OpcodeRow.fits, hpattern] using h⟩

/-- The word decodes to an instruction of the same row. -/
def DecodesToRowOf (i : Instr) (c : CodeWord) : Prop := ∃ j, decode c = .ok j ∧ j.row = i.row

/-- The mask of the rows of a protocol: `op`, `proto` and the reserved bits, and the field that selects among its
rows. -/
def frameMask : Proto → BitVec 32
  | .nec => 0xFF85FFFF
  | .sony => 0xFFE1FFFF
  | .rc5 => 0xFF83FFFF
  | _ => 0xFF81FFFF

/-- The `var` bits of the rows of a protocol. -/
def rowVar : Proto → SonyVar → BitVec 2
  | .sony, v => sonyVarBits v
  | _, _ => 0

/-- The `rpt` bit of the rows of a protocol. -/
def rowRpt : Proto → Bool → Bool
  | .nec, rpt => rpt
  | _, _ => false

/-- The `ext` bit of the rows of a protocol. -/
def rowExt : Proto → Bool → Bool
  | .rc5, ext => ext
  | _, _ => false

namespace FrameOp

/-- The row of an ENCODE, SEND or SENDN, built from its fields. -/
theorem instr_row_pattern (o : FrameOp) (P : Proto) (v : SonyVar) (tgl auto rpt ext : Bool) :
    (o.instr P v tgl auto rpt ext).row.pattern =
      .cw (commandWord o.code (protoCode P) (rowVar P v) false false (rowRpt P rpt) (rowExt P ext)) (frameMask P) := by
  cases P <;> simp only [rowVar, rowRpt, rowExt]
  case nec => cases rpt <;> cases o <;> rfl
  case sony => cases v <;> cases o <;> rfl
  case rc5 => cases ext <;> cases o <;> rfl
  all_goals cases o <;> rfl

theorem var3_row_pattern (o : FrameOp) :
    o.var3.row.pattern = .cw (commandWord o.code (protoCode .sony) 3 false false false false) 0xFFE00000 := by
  cases o <;> rfl

/-- The row does not depend on the operands: only the field that selects among the rows of the protocol counts. -/
theorem instr_row_congr (o : FrameOp) (P : Proto) {v v' : SonyVar} (tgl tgl' auto auto' : Bool)
    {rpt rpt' ext ext' : Bool} (hrpt : P = .nec → rpt = rpt') (hvar : P = .sony → v = v')
    (hext : P = .rc5 → ext = ext') :
    (o.instr P v tgl auto rpt ext).row = (o.instr P v' tgl' auto' rpt' ext').row := by
  cases P with
  | nec => rw [hrpt rfl]; cases rpt' <;> cases o <;> rfl
  | sony => rw [hvar rfl]; cases v' <;> cases o <;> rfl
  | rc5 => rw [hext rfl]; cases ext' <;> cases o <;> rfl
  | _ => cases o <;> rfl

theorem decodesToRowOf_instr (o : FrameOp) (P : Proto) (v : SonyVar) (tgl auto rpt ext : Bool) {c : CodeWord}
    (hfits : (o.instr P v tgl auto rpt ext).row.fits c = true) : DecodesToRowOf (o.instr P v tgl auto rpt ext) c := by
  obtain ⟨w, rfl, h⟩ := exists_of_fits_cw (o.instr_row_pattern P v tgl auto rpt ext) hfits
  have hop : cwOp w = o.code :=
    (extractLsb'_of_and_eq h (by cases P <;> decide)).trans (cwOp_commandWord ..)
  have hproto : cwProto w = protoCode P :=
    (extractLsb'_of_and_eq h (by cases P <;> decide)).trans (cwProto_commandWord ..)
  have hres : cwReserved w = 0 :=
    (extractLsb'_of_and_eq h (by cases P <;> decide)).trans (cwReserved_commandWord ..)
  have hrpt : P = .nec → cwRpt w = rpt := by
    rintro rfl
    exact (getLsbD_of_and_eq h (by decide)).trans (cwRpt_commandWord ..)
  have hvar : P = .sony → cwVar w = sonyVarBits v := by
    rintro rfl
    exact (extractLsb'_of_and_eq h (by decide)).trans (cwVar_commandWord ..)
  have hext : P = .rc5 → cwExt w = ext := by
    rintro rfl
    exact (getLsbD_of_and_eq h (by decide)).trans (cwExt_commandWord ..)
  refine ⟨o.instr P (wordVar w) (cwTgl w) (cwAuto w) (cwRpt w) (cwExt w), ?_, ?_⟩
  · rw [decode_frameOp hop, decodeFrameOp_of_legal hproto (fun hP => hvar hP ▸ sonyVarBits_ne_three v) hres]
  · exact o.instr_row_congr P _ _ _ _ hrpt (fun hP => by simp [wordVar, hvar hP]) hext

theorem decodesToRowOf_var3 (o : FrameOp) {c : CodeWord} (hfits : o.var3.row.fits c = true) :
    DecodesToRowOf o.var3 c := by
  obtain ⟨w, rfl, h⟩ := exists_of_fits_cw o.var3_row_pattern hfits
  have hop : cwOp w = o.code := (extractLsb'_of_and_eq h (by decide)).trans (cwOp_commandWord ..)
  have hproto : cwProto w = protoCode .sony := (extractLsb'_of_and_eq h (by decide)).trans (cwProto_commandWord ..)
  have hvar : cwVar w = 3 := (extractLsb'_of_and_eq h (by decide)).trans (cwVar_commandWord ..)
  exact ⟨o.var3, (decode_frameOp hop).trans (decodeFrameOp_of_var3 hproto hvar), rfl⟩

/-- The same for an instruction that is known by its word. -/
theorem decodesToRowOf_of_encode (o : FrameOp) {P : Proto} {var : BitVec 2} {tgl auto rpt ext : Bool} {i : Instr}
    {c : CodeWord} (hfits : i.row.fits c = true)
    (hencode : Sys2Proof.encode i = frameWord o.code P var tgl auto rpt ext) (hvar : P = .sony → var ≠ 3) :
    DecodesToRowOf i c := by
  have hdecode := decode_encode i
  rw [hencode, decode_frameWord o P var tgl auto rpt ext hvar] at hdecode
  cases hdecode
  exact o.decodesToRowOf_instr P _ tgl auto rpt ext hfits

end FrameOp

/-! ## The other command words -/

section
variable {i : Instr} {c : CodeWord} {bits : BitVec 32}

/-- A row that fixes `op` and the reserved bits. -/
theorem op_reserved_of_fits (hpattern : i.row.pattern = .cw bits 0xF001FFFF) (hzero : cwReserved bits = 0)
    (hfits : i.row.fits c = true) : ∃ w, c = .cw w ∧ cwOp w = cwOp bits ∧ cwReserved w = 0 := by
  obtain ⟨w, rfl, h⟩ := exists_of_fits_cw hpattern hfits
  exact ⟨w, rfl, extractLsb'_of_and_eq h (by decide), (extractLsb'_of_and_eq h (by decide)).trans hzero⟩

/-- A row that fixes `op`, `proto` and the reserved bits. -/
theorem op_proto_reserved_of_fits (hpattern : i.row.pattern = .cw bits 0xFF81FFFF) (hzero : cwReserved bits = 0)
    (hfits : i.row.fits c = true) :
    ∃ w, c = .cw w ∧ cwOp w = cwOp bits ∧ cwProto w = cwProto bits ∧ cwReserved w = 0 := by
  obtain ⟨w, rfl, h⟩ := exists_of_fits_cw hpattern hfits
  exact ⟨w, rfl, extractLsb'_of_and_eq h (by decide), extractLsb'_of_and_eq h (by decide),
    (extractLsb'_of_and_eq h (by decide)).trans hzero⟩

/-- A row that fixes `op` alone, that of a reserved operation code. -/
theorem decodesToRowOf_reservedOp (hpattern : i.row.pattern = .cw bits 0xF0000000) (hmem : (cwOp bits, i) ∈ reservedOps)
    (hfits : i.row.fits c = true) : DecodesToRowOf i c := by
  obtain ⟨w, rfl, h⟩ := exists_of_fits_cw hpattern hfits
  have hop : cwOp w = cwOp bits := extractLsb'_of_and_eq h (by decide)
  exact ⟨i, decode_reservedOp (hop ▸ hmem), rfl⟩

end

/-! ## The micro-operation words (R60): every word of a row is the word of an instruction of the row -/

theorem eq_cenWord_of_and_eq {u : BitVec 34} (h : u &&& 0x3FFFFFF80 = 0x100000000) :
    u = cenWord (u.extractLsb' 0 7) :=
  calc u
    _ = u.extractLsb' 7 27 ++ u.extractLsb' 0 7 := (extractLsb'_append_extractLsb' 27 7 u).symm
    _ = cenWord (u.extractLsb' 0 7) := by rw [extractLsb'_of_and_eq h (by decide)]; rfl

theorem eq_cdisWord_of_and_eq {u : BitVec 34} (h : u &&& 0x3FFFFFFFF = 0x200000000) : u = cdisWord :=
  calc u
    _ = u &&& BitVec.allOnes 34 := BitVec.and_allOnes.symm
    _ = cdisWord := h

theorem eq_dlyWord_of_and_eq {u : BitVec 34} (h : u &&& 0x300000000 = 0x300000000) : u = dlyWord (uwArg u) :=
  calc u
    _ = u.extractLsb' 32 2 ++ u.extractLsb' 0 32 := (extractLsb'_append_extractLsb' 2 32 u).symm
    _ = dlyWord (uwArg u) := by rw [extractLsb'_of_and_eq h (by decide)]; rfl

/-- Settles O2, by row: the row fixes the fields that the rule of its operation code asks for. -/
theorem wordsOfARowDecodeToTheRow : Obligations.WordsOfARowDecodeToTheRow := by
  intro i c hfits
  cases i with
  | init =>
    obtain ⟨w, rfl, hop, hres⟩ := op_reserved_of_fits rfl rfl hfits
    exact ⟨_, (decode_init hop).trans (checkReserved_of_zero hres _), rfl⟩
  | getinfo _ =>
    obtain ⟨w, rfl, hop, hres⟩ := op_reserved_of_fits rfl rfl hfits
    exact ⟨_, (decode_getinfo hop).trans (checkReserved_of_zero hres _), rfl⟩
  | fromname =>
    obtain ⟨w, rfl, hop, hres⟩ := op_reserved_of_fits rfl rfl hfits
    exact ⟨_, (decode_fromname hop).trans (checkReserved_of_zero hres _), rfl⟩
  | transmit =>
    obtain ⟨w, rfl, hop, hres⟩ := op_reserved_of_fits rfl rfl hfits
    exact ⟨_, (decode_transmit hop).trans (checkReserved_of_zero hres _), rfl⟩
  | rsttglRc5 | rsttglRc6 =>
    obtain ⟨w, rfl, hop, hproto, hres⟩ := op_proto_reserved_of_fits rfl rfl hfits
    refine ⟨_, ?_, rfl⟩
    rw [decode_rsttgl hop, checkReserved_of_zero hres, decodeRsttgl, hproto]
    rfl
  | illegalOp0 | illegalOp9 | illegalOp10 | illegalOp11 | illegalOp12 | illegalOp13 | illegalOp14
  | illegalOp15 => exact decodesToRowOf_reservedOp rfl (by decide) hfits
  | encodeSonyVar3 => exact FrameOp.encode.decodesToRowOf_var3 hfits
  | sendSonyVar3 => exact FrameOp.send.decodesToRowOf_var3 hfits
  | sendnSonyVar3 => exact FrameOp.sendn.decodesToRowOf_var3 hfits
  | encodeNec | encodeNecRpt | encodeNecExt _ | encodeSony12 _ | encodeSony15 _ | encodeSony20 _ | encodeRc5 _ _
  | encodeRc5X _ _ | encodeRc6 _ _ | encodeSamsung _ | encodePanasonic _ | encodeJvc _ | encodeLg _
  | encodeMitsubishi _ | encodeSharp _ | encodeDish _ | encodeAiwa _ | encodeDenon _ | encodeKaseikyo _
  | encodeWhynter _ | encodeCoolix _ | encodeGeneric _ =>
    exact FrameOp.encode.decodesToRowOf_of_encode hfits rfl (by decide)
  | sendNec | sendNecRpt | sendNecExt _ | sendSony12 _ | sendSony15 _ | sendSony20 _ | sendRc5 _ _ _
  | sendRc5X _ _ _ | sendRc6 _ _ _ | sendSamsung _ | sendPanasonic _ | sendJvc _ | sendLg _ | sendMitsubishi _
  | sendSharp _ | sendDish _ | sendAiwa _ | sendDenon _ | sendKaseikyo _ | sendWhynter _ | sendCoolix _
  | sendGeneric _ => exact FrameOp.send.decodesToRowOf_of_encode hfits rfl (by decide)
  | sendnNec | sendnNecRpt | sendnNecExt _ | sendnSony12 _ | sendnSony15 _ | sendnSony20 _ | sendnRc5 _ _ _
  | sendnRc5X _ _ _ | sendnRc6 _ _ _ | sendnSamsung _ | sendnPanasonic _ | sendnJvc _ | sendnLg _
  | sendnMitsubishi _ | sendnSharp _ | sendnDish _ | sendnAiwa _ | sendnDenon _ | sendnKaseikyo _
  | sendnWhynter _ | sendnCoolix _ | sendnGeneric _ =>
    exact FrameOp.sendn.decodesToRowOf_of_encode hfits rfl (by decide)
  | cen _ =>
    obtain ⟨u, rfl, h⟩ := exists_of_fits_uw rfl hfits
    exact ⟨_, (congrArg decodeMicro (eq_cenWord_of_and_eq h)).trans (decodeMicro_cenWord _), rfl⟩
  | cdis =>
    obtain ⟨u, rfl, h⟩ := exists_of_fits_uw rfl hfits
    exact ⟨_, (congrArg decodeMicro (eq_cdisWord_of_and_eq h)).trans decodeMicro_cdisWord, rfl⟩
  | dly _ =>
    obtain ⟨u, rfl, h⟩ := exists_of_fits_uw rfl hfits
    exact ⟨_, (congrArg decodeMicro (eq_dlyWord_of_and_eq h)).trans (decodeMicro_dlyWord _), rfl⟩

end Sys2Proof
end

section
/-! PROOFS. What the words that are no operation do (R64), and the packed symbol word (R51). -/

namespace Sys2Proof.Machine

/-! ## Illegal command words -/

theorem runWord_of_decode_error {c : CodeWord} {e : Illegal} (hdecode : decode c = .error e) (s : State) :
    runWord c s = execIllegal e s := by
  simp only [runWord, hdecode]

theorem isFrameOp_code (o : FrameOp) : isFrameOp o.code = true := by
  cases o <;> rfl

theorem exec_reservedOp {i : Instr} (hi : i ∈ reservedOps.map Prod.snd) (s : State) :
    exec i s = .next (raise .invalidArgument s) := by
  simp only [reservedOps, List.map_cons, List.map_nil, List.mem_cons, List.not_mem_nil, or_false] at hi
  obtain rfl | rfl | rfl | rfl | rfl | rfl | rfl | rfl := hi <;> rfl

/-- The rows of the reserved Sony variant (R64 row 6). -/
theorem exec_var3 (o : FrameOp) (s : State) : exec o.var3 s = .next (illegalWith o.code .sonyVar3 2 s) := by
  have hexec : exec o.var3 s = .next (raiseIllegal params o.code .sonyVar3 .invalidArgument s) := by
    cases o <;> rfl
  rw [hexec, raiseIllegal_eq_illegalWith (isFrameOp_code o)]
  rfl

section
variable {w : BitVec 32}

/-- A reserved bit in the word of an operation that produces no frame (R64 row 1). -/
theorem decode_of_reservedBits (hop : cwOp w = 1 ∨ cwOp w = 2 ∨ cwOp w = 3 ∨ cwOp w = 5 ∨ cwOp w = 7)
    (hres : cwReserved w ≠ 0) : decode (.cw w) = .error (.reservedBits (cwOp w)) := by
  obtain h | h | h | h | h := hop
  · rw [decode_init h, checkReserved_of_ne_zero hres]
  · rw [decode_getinfo h, checkReserved_of_ne_zero hres]
  · rw [decode_fromname h, checkReserved_of_ne_zero hres]
  · rw [decode_transmit h, checkReserved_of_ne_zero hres]
  · rw [decode_rsttgl h, checkReserved_of_ne_zero hres]

/-- A reserved bit in the word of an operation other than ENCODE, SEND and SENDN changes `ERR` alone. -/
theorem runWord_reservedBits_no_frame (hop : ¬(cwOp w = 4 ∨ cwOp w = 6 ∨ cwOp w = 8)) (hres : cwReserved w ≠ 0)
    (s : State) : runWord (.cw w) s = .next (raise .invalidArgument s) := by
  obtain h | h | h := opCode_cases (cwOp w)
  · have hno : isFrameOp (cwOp w) = false := by simpa [isFrameOp, not_or, and_assoc] using hop
    rw [runWord_of_decode_error (decode_of_reservedBits h hres), execIllegal, raiseIllegal_of_no_frame hno]
  · exact absurd h hop
  · obtain ⟨⟨op, i⟩, hmem, rfl⟩ := List.mem_map.1 h
    rw [runWord_of_decode_ok (decode_reservedOp hmem), exec_reservedOp (List.mem_map_of_mem hmem)]

/-- A reserved bit in the word of an ENCODE, SEND or SENDN: the reserved Sony variant keeps its own row. -/
theorem runWord_reservedBits_frame {o : FrameOp} (hop : cwOp w = o.code) (hres : cwReserved w ≠ 0) (s : State) :
    runWord (.cw w) s = .next (illegalWith (cwOp w)
      (if cwProto w = protoCode .sony ∧ cwVar w = 3 then .sonyVar3 else .reservedBits) 2 s) := by
  split
  next hvar3 =>
    obtain ⟨hsony, h3⟩ := hvar3
    rw [runWord_of_decode_ok ((decode_frameOp hop).trans (decodeFrameOp_of_var3 hsony h3)), exec_var3, hop]
  next hvar3 =>
    rw [runWord_of_decode_error ((decode_frameOp hop).trans (decodeFrameOp_of_reservedBits hvar3 hres)), execIllegal,
      raiseIllegal_eq_illegalWith (hop ▸ isFrameOp_code o)]
    rfl

/-- An ENCODE, SEND or SENDN of a code that is no protocol (R64 row 4). -/
theorem runWord_noSuchProtocol {o : FrameOp} (hop : cwOp w = o.code) (hres : cwReserved w = 0)
    (hproto : 18 ≤ (cwProto w).toNat) (s : State) :
    runWord (.cw w) s = .next (illegalWith (cwOp w) .noSuchProtocol 4 s) := by
  rw [runWord_of_decode_error ((decode_frameOp hop).trans (decodeFrameOp_of_noSuchProtocol hproto hres)), execIllegal,
    raiseIllegal_eq_illegalWith (hop ▸ isFrameOp_code o)]
  rfl

/-- An RSTTGL of a protocol without a toggle bit (R64 row 7). -/
theorem runWord_noToggleBit (hop : cwOp w = 7) (hres : cwReserved w = 0) (hrc5 : cwProto w ≠ protoCode .rc5)
    (hrc6 : cwProto w ≠ protoCode .rc6) (s : State) : runWord (.cw w) s = .next (raise .invalidArgument s) := by
  have hdecode : decode (.cw w) = .error (.noToggleBit (cwProto w)) := by
    rw [decode_rsttgl hop, checkReserved_of_zero hres, decodeRsttgl_of_no_toggle hrc5 hrc6]
  rw [runWord_of_decode_error hdecode, execIllegal]

end

/-- Settles O7: a reserved operation code is a row; any other illegal word is rejected by the decoder, and each
rejection is one of the cases above. -/
theorem illegalCommandWordsRaise : Obligations.IllegalCommandWordsRaise := by
  refine ⟨fun s i hi => exec_reservedOp hi s, fun s w rest huport hphase hport => ?_⟩
  rw [step_of_command huport hphase hport]
  refine ⟨fun hres => ?_, fun hres hop hproto => ?_, fun hres hop hrc5 hrc6 => ?_⟩
  · split
    next hop =>
      obtain ⟨o, ho⟩ := FrameOp.exists_code hop
      exact runWord_reservedBits_frame ho hres _
    next hop => exact runWord_reservedBits_no_frame hop hres _
  · obtain ⟨o, ho⟩ := FrameOp.exists_code hop
    exact runWord_noSuchProtocol ho hres hproto _
  · exact runWord_noToggleBit hop hres hrc5 hrc6 _

/-! ## The packed symbol word (R51) -/

theorem symbolWord_mark (v : Symbol) : (symbolWord v).extractLsb' 0 32 = v.mark :=
  BitVec.extractLsb'_append_eq_right

theorem symbolWord_space (v : Symbol) : (symbolWord v).extractLsb' 32 32 = v.space :=
  BitVec.extractLsb'_append_eq_left

theorem symbolOfWord_symbolWord (v : Symbol) : symbolOfWord (symbolWord v) = v := by
  rw [symbolOfWord, symbolWord_mark, symbolWord_space]

theorem symbolWord_symbolOfWord (w : BitVec 64) : symbolWord (symbolOfWord w) = w :=
  extractLsb'_append_extractLsb' 32 32 w

/-- One symbol on the pin: the mark, then the space (R129). -/
theorem waveOf_singleton (f : Word) (d : Duty) (v : Symbol) :
    waveOf f d [v] = markItems f d v.mark ++ spaceItems v.space := by
  simp only [waveOf, List.append_nil]

/-- Settles O5, part by part. -/
theorem symbolWordHoldsMarkThenSpace : Obligations.SymbolWordHoldsMarkThenSpace :=
  ⟨fun v => ⟨symbolWord_mark v, symbolWord_space v, symbolOfWord_symbolWord v⟩, symbolWord_symbolOfWord,
    waveOf_singleton⟩

end Sys2Proof.Machine
end

section
/-! PROOFS. The registry lookups: GETINFO reads the record of a code, FROMNAME searches the names in ascending code
order after folding. From these two the family of 40_registry. -/

namespace Sys2Proof.Machine

/-! ## The search for a name (R71) -/

theorem mem_allProtos (P : Proto) : P ∈ allProtos := by
  cases P <;> decide

theorem allProtos_ascending : allProtos.Pairwise fun P Q => (protoCode P).toNat < (protoCode Q).toNat := by
  decide

/-- The protocols with a lower code than `P` are those that the search tries before `P`. -/
theorem mem_before_of_protoCode_lt {before after : List Proto} {P Q : Proto} (hsplit : allProtos = before ++ P :: after)
    (hlt : (protoCode Q).toNat < (protoCode P).toNat) : Q ∈ before := by
  have hascending := allProtos_ascending
  have hmem := mem_allProtos Q
  rw [hsplit] at hascending hmem
  obtain ⟨hafter, -⟩ := List.pairwise_cons.1 (List.pairwise_append.1 hascending).2.1
  obtain hbefore | hhere := List.mem_append.1 hmem
  · exact hbefore
  · obtain rfl | hQ := List.mem_cons.1 hhere
    · exact absurd hlt (lt_irrefl _)
    · exact absurd hlt (hafter Q hQ).asymm

/-- What the search answers: the protocol of the lowest code among those whose name matches, or GENERIC without any. -/
theorem protoFromName_cases (p : Params) (s : List Byte) :
    (foldName s = foldName (p.name (protoFromName p s)) ∧
      ∀ Q, (protoCode Q).toNat < (protoCode (protoFromName p s)).toNat → foldName s ≠ foldName (p.name Q)) ∨
    (protoFromName p s = .generic ∧ ∀ Q, foldName s ≠ foldName (p.name Q)) := by
  cases hfind : allProtos.find? fun P => decide (foldName s = foldName (p.name P)) with
  | some P =>
    have hP : protoFromName p s = P := by rw [protoFromName, hfind, Option.getD_some]
    obtain ⟨hmatch, before, after, hsplit, hbefore⟩ := List.find?_eq_some_iff_append.1 hfind
    rw [hP]
    refine .inl ⟨of_decide_eq_true hmatch, fun Q hlt => ?_⟩
    simpa using hbefore Q (mem_before_of_protoCode_lt hsplit hlt)
  | none =>
    refine .inr ⟨by rw [protoFromName, hfind, Option.getD_none], fun Q => ?_⟩
    simpa using List.find?_eq_none.1 hfind Q (mem_allProtos Q)

theorem exec_fromname (s : State) :
    exec .fromname s =
      .next { s with res0 := (protoCode (protoFromName params (operandName s))).setWidth 32, err := 0 } := rfl

/-- Settles O14: the protocol is the one that the search answers. -/
theorem fromnameFindsTheFirstMatch : Obligations.FromnameFindsTheFirstMatch := fun s =>
  ⟨protoFromName params (operandName s), exec_fromname s, protoFromName_cases params (operandName s)⟩

/-! ## Folding (R72) -/

/-- An upper-case ASCII letter. -/
def IsUpper (b : Byte) : Prop := 0x41 ≤ b.toNat ∧ b.toNat ≤ 0x5A

/-- The same byte, or the two cases of one ASCII letter. -/
def SameLetter (a b : Byte) : Prop :=
  a = b ∨ (0x41 ≤ a.toNat ∧ a.toNat ≤ 0x5A ∧ b = a + 0x20) ∨ (0x41 ≤ b.toNat ∧ b.toNat ≤ 0x5A ∧ a = b + 0x20)

theorem foldByte_of_upper {b : Byte} (hb : IsUpper b) : foldByte b = b + 0x20 := if_pos hb

theorem foldByte_of_not_upper {b : Byte} (hb : ¬IsUpper b) : foldByte b = b := if_neg hb

/-- The byte 0x20 above an upper-case letter is above all of them. -/
theorem not_isUpper_add {b : Byte} (hb : IsUpper b) : ¬IsUpper (b + 0x20) := by
  obtain ⟨hge, hle⟩ := hb
  rintro ⟨-, hle'⟩
  have hadd : (b + 0x20).toNat = b.toNat + 0x20 := BitVec.toNat_add_of_lt (by simp; omega)
  omega

/-- A letter and its lower-case form fold alike. -/
theorem foldByte_add_of_upper {b : Byte} (hb : IsUpper b) : foldByte (b + 0x20) = foldByte b := by
  rw [foldByte_of_upper hb, foldByte_of_not_upper (not_isUpper_add hb)]

theorem foldByte_eq_of_sameLetter {a b : Byte} (h : SameLetter a b) : foldByte a = foldByte b := by
  obtain rfl | ⟨hge, hle, rfl⟩ | ⟨hge, hle, rfl⟩ := h
  · rfl
  · exact (foldByte_add_of_upper ⟨hge, hle⟩).symm
  · exact foldByte_add_of_upper ⟨hge, hle⟩

theorem foldName_eq_of_forall₂_sameLetter {l l' : List Byte} (h : List.Forall₂ SameLetter l l') :
    foldName l = foldName l' := by
  induction h with
  | nil => rfl
  | cons hletter _ ih => exact congrArg₂ List.cons (foldByte_eq_of_sameLetter hletter) ih

/-- The search sees a name after folding only. -/
theorem protoFromName_congr (p : Params) {l l' : List Byte} (h : foldName l = foldName l') :
    protoFromName p l = protoFromName p l' := by
  simp only [protoFromName, h]

/-- Settles O15: names that differ in the case of letters fold alike, and the search sees them folded. -/
theorem fromnameIgnoresAsciiCase : Obligations.FromnameIgnoresAsciiCase := by
  intro s s' t t' hletters ht ht'
  have hproto : protoFromName params (operandName s) = protoFromName params (operandName s') :=
    protoFromName_congr params (foldName_eq_of_forall₂_sameLetter hletters)
  rw [exec_fromname] at ht ht'
  cases ht
  cases ht'
  simp only [hproto]

/-! ## The record of a code (R70) -/

theorem exec_getinfo_protoCode (P : Proto) (s : State) :
    exec (.getinfo (protoCode P)) s = .next { s with resinfo := info params P, err := 0 } := by
  have hop : getinfoOp params (protoCode P) s = raise .ok { s with resinfo := info params P } := by
    simp only [getinfoOp, protoOfCode_protoCode]
  exact congrArg Host.Outcome.next hop

theorem exec_getinfo_of_noSuchProtocol {c : BitVec 5} (hc : 18 ≤ c.toNat) (s : State) :
    exec (.getinfo c) s = .next { s with err := 6 } := by
  have hop : getinfoOp params c s = raise .notFound s := by
    simp only [getinfoOp, (protoOfCode_eq_none_iff c).2 hc]
  exact congrArg Host.Outcome.next hop

/-- A command word of GETINFO reads its field `proto` and nothing else, unless a reserved bit is set (R64 row 1). -/
theorem runWord_getinfo {w : BitVec 32} (hop : cwOp w = 2) (s : State) :
    runWord (.cw w) s = if cwReserved w ≠ 0 then .next { s with err := 2 } else exec (.getinfo (cwProto w)) s := by
  split
  next hres => exact runWord_reservedBits_no_frame (by simp [hop]) hres s
  next hres =>
    exact runWord_of_decode_ok ((decode_getinfo hop).trans (checkReserved_of_zero (not_not.1 hres) _)) s

/-- Settles O12: the two answers of GETINFO, and the word that the host presents. -/
theorem getinfoReturnsTheRecord : Obligations.GetinfoReturnsTheRecord := by
  refine ⟨exec_getinfo_protoCode, fun _ s hc => exec_getinfo_of_noSuchProtocol hc s, ?_, rfl, rfl, rfl, rfl, rfl⟩
  intro s w rest huport hphase hport hop
  rw [step_of_command huport hphase hport, runWord_getinfo hop]
  rfl

/-! ## The sourced cells (R74) -/

/-- Settles O13, cell by cell: no sourced cell is read from the catalog. -/
theorem registryHoldsTheSourcedCells : Obligations.RegistryHoldsTheSourcedCells := by
  refine ⟨fun _ => rfl, rfl, fun r hr => ?_⟩
  simp only [List.mem_cons, List.not_mem_nil, or_false] at hr
  obtain rfl | rfl | rfl | rfl | rfl | rfl | rfl | rfl | rfl := hr <;> exact ⟨rfl, rfl⟩

end Sys2Proof.Machine
end

section
/-! PROOFS. The pulse-coded frames, from their data bits on: their lengths, the balance of NEC, the check bit of SHARP,
and that a frame determines its operands (41_symbol_encoder R84 to R96, R107, R108). -/

namespace Sys2Proof.Machine

/-! ## The bits of a value (R8, R87) -/

/-- The low `n` bits of a value below `2 ^ n` determine it. -/
theorem eq_of_bitsLsb_eq {n v w : Nat} (hv : v < 2 ^ n) (hw : w < 2 ^ n) (h : bitsLsb v n = bitsLsb w n) : v = w := by
  refine Nat.eq_of_testBit_eq fun i => ?_
  by_cases hi : i < n
  · exact List.map_inj_left.1 h i (List.mem_range.2 hi)
  · have hpow : 2 ^ n ≤ 2 ^ i := Nat.pow_le_pow_right (by decide) (Nat.le_of_not_lt hi)
    rw [Nat.testBit_lt_two_pow (hv.trans_le hpow), Nat.testBit_lt_two_pow (hw.trans_le hpow)]

theorem eq_of_bitsMsb_eq {n v w : Nat} (hv : v < 2 ^ n) (hw : w < 2 ^ n) (h : bitsMsb v n = bitsMsb w n) : v = w :=
  eq_of_bitsLsb_eq hv hw (List.reverse_injective h)

theorem bitsLsb_append_inj {n v w : Nat} {L M : List Bool} (hv : v < 2 ^ n) (hw : w < 2 ^ n)
    (h : bitsLsb v n ++ L = bitsLsb w n ++ M) : v = w ∧ L = M := by
  obtain ⟨hbits, hrest⟩ := List.append_inj h (by simp)
  exact ⟨eq_of_bitsLsb_eq hv hw hbits, hrest⟩

theorem bitsMsb_append_inj {n v w : Nat} {L M : List Bool} (hv : v < 2 ^ n) (hw : w < 2 ^ n)
    (h : bitsMsb v n ++ L = bitsMsb w n ++ M) : v = w ∧ L = M := by
  obtain ⟨hbits, hrest⟩ := List.append_inj h (by simp)
  exact ⟨eq_of_bitsMsb_eq hv hw hbits, hrest⟩

/-- `not_8` complements each of the eight bits (R87). -/
theorem bitsLsb_not8 (v : Nat) : bitsLsb (not8 v) 8 = (bitsLsb v 8).map not := by
  simp only [bitsLsb, List.map_map]
  refine List.map_congr_left fun i hi => ?_
  have hi8 : i < 8 := List.mem_range.1 hi
  have hnot : not8 v = 2 ^ 8 - (v % 2 ^ 8 + 1) := by simp only [not8, mask]; omega
  rw [hnot, Nat.testBit_two_pow_sub_succ (Nat.mod_lt v (by decide)), Nat.testBit_mod_two_pow]
  simp [hi8]

theorem not8_of_lt {v : Nat} (hv : v < 2 ^ 8) : not8 v = 255 - v := by
  rw [not8, mask, Nat.mod_eq_of_lt hv]

/-! ## Lengths (R107) -/

@[simp] theorem hdr_length (t : TimingSpec) : (hdr t).length = 1 := rfl

@[simp] theorem bitSymbols_length (t : TimingSpec) (L : List Bool) : (bitSymbols t L).length = L.length :=
  List.length_map _

/-- `STOP(P)` is one symbol, or none when the stop bit is absent (R86). -/
theorem stop_length (t : TimingSpec) : (stop t).length = if t.stopBitUs = none then 0 else 1 := by
  cases h : t.stopBitUs <;> simp [stop, h]

theorem stop_length_le (t : TimingSpec) : (stop t).length ≤ 1 := by
  rw [stop_length]
  split <;> omega

/-- A protocol of R79 has its stop symbol. -/
theorem stop_length_of_required {P : Proto} {t : TimingSpec} (hP : stopRequired P = true) (h : TimingLegal P t) :
    (stop t).length = 1 := by
  rw [stop_length, if_neg (Option.isSome_iff_ne_none.1 (h.stop hP))]

theorem frameNec_length (t : TimingSpec) (a c : Nat) : (frameNec t a c).length = 33 + (stop t).length := by
  simp [frameNec, necBits]
  omega

theorem frameNecExt_length (t : TimingSpec) (a c : Nat) : (frameNecExt t a c).length = 33 + (stop t).length := by
  simp [frameNecExt, necExtBits]
  omega

theorem frameRpt_length (t : TimingSpec) (x : TimingExt) : (frameRpt t x).length = 1 + (stop t).length := by
  simp [frameRpt, Nat.add_comm]

theorem frameSony_length (t : TimingSpec) (wa a c : Nat) : (frameSony t wa a c).length = 8 + wa := by
  simp [frameSony, sonyBits]
  omega

theorem frameSharp_length (t : TimingSpec) (a c : Nat) : (frameSharp t a c).length = 15 + (stop t).length := by
  simp [frameSharp, sharpData]

theorem framePanasonic_length (t : TimingSpec) (a c : Nat) : (framePanasonic t a c).length = 49 := by
  simp [framePanasonic, panasonicBits]

@[simp] theorem coolixCopy_length (t : TimingSpec) (c : Nat) : (coolixCopy t c).length = 25 := by
  simp [coolixCopy]

theorem frameCoolix_length (t : TimingSpec) (x : TimingExt) (c : Nat) :
    (frameCoolix t x c).length = 51 + (stop t).length := by
  simp [frameCoolix]
  omega

/-- Settles O24: a header, the data bits of the rule, and a stop where R79 demands one. -/
theorem pulseFrameLengths : Obligations.PulseFrameLengths := by
  intro t x a c
  refine ⟨fun h => ?_, fun h => ?_, frameSony_length t 5 a c, frameSony_length t 8 a c, frameSony_length t 13 a c, ?_,
    framePanasonic_length t a c, framePanasonic_length t a c, fun h => ?_⟩
  · rw [frameNec_length, frameRpt_length, stop_length_of_required rfl h]
    exact ⟨rfl, rfl⟩
  · rw [frameNecExt_length, stop_length_of_required rfl h]
  · rw [frameSharp_length, stop_length]
    split <;> rfl
  · rw [frameCoolix_length, stop_length_of_required rfl h]

/-! ## The balance of NEC (R89) -/

theorem dur_append (S T : List Symbol) : dur (S ++ T) = dur S + dur T := by
  simp [dur]

/-- The data symbols last as long as their ones and their zeros. -/
theorem dur_bitSymbols (t : TimingSpec) (L : List Bool) :
    dur (bitSymbols t L) = L.count true * dur [bitSymbol t true] + L.count false * dur [bitSymbol t false] := by
  induction L with
  | nil => simp [bitSymbols, dur]
  | cons b L ih =>
    have hcons : dur (bitSymbols t (b :: L)) = dur [bitSymbol t b] + dur (bitSymbols t L) :=
      dur_append [bitSymbol t b] (bitSymbols t L)
    rw [hcons, ih]
    cases b <;> rw [List.count_cons_self, List.count_cons_of_ne (by decide)] <;> ring

/-- Bits and their complements hold each value as often as there are bits. -/
theorem count_append_map_not (b : Bool) (L : List Bool) : (L ++ L.map not).count b = L.length := by
  have hmap : (L.map not).count b = L.count (!b) := by
    simpa using List.count_map_of_injective L not Bool.not_injective (!b)
  rw [List.count_append, hmap, Nat.add_comm, List.count_not_add_count]

theorem count_necBits (b : Bool) (a c : Nat) : (necBits a c).count b = 16 := by
  rw [necBits, List.append_assoc, List.count_append, bitsLsb_not8, bitsLsb_not8, count_append_map_not,
    count_append_map_not, bitsLsb_length, bitsLsb_length]

theorem dur_frameNec (t : TimingSpec) (a c : Nat) :
    dur (frameNec t a c) =
      dur (hdr t) + (16 * dur [bitSymbol t true] + 16 * dur [bitSymbol t false]) + dur (stop t) := by
  rw [frameNec, dur_append, dur_append, dur_bitSymbols, count_necBits, count_necBits]

/-- Settles O25: each byte is followed by its complement. -/
theorem necFrameIsBalanced : Obligations.NecFrameIsBalanced := by
  intro t a c a' c' _ _ _ _
  exact ⟨count_necBits true a c, count_necBits false a c, (dur_frameNec t a c).trans (dur_frameNec t a' c').symm⟩

/-! ## The check bit of SHARP (R93) -/

/-- The sum modulo 2 of the bits is the parity of the number of ones (R7). -/
theorem toNat_xorAll (L : List Bool) : (xorAll L).toNat = L.count true % 2 := by
  induction L with
  | nil => rfl
  | cons b L ih =>
    have hcons : xorAll (b :: L) = (b ^^ xorAll L) := rfl
    cases b
    case false => simpa [hcons] using ih
    case true =>
      rw [hcons, List.count_cons_self]
      cases h : xorAll L <;> simp [h] at ih ⊢ <;> omega

/-- Bits followed by their sum modulo 2 hold an even number of ones. -/
theorem count_append_xorAll (L : List Bool) : (L ++ [xorAll L]).count true % 2 = 0 := by
  have hparity := toNat_xorAll L
  rw [List.count_append]
  cases h : xorAll L <;> simp [h] at hparity ⊢ <;> omega

/-- Settles O26: the check bit is the sum modulo 2 of the data bits. -/
theorem sharpCheckBitIsEven : Obligations.SharpCheckBitIsEven :=
  fun _ a c => ⟨xorAll (sharpData a c), rfl, count_append_xorAll (sharpData a c)⟩

/-! ## A frame determines its operands (R108) -/

section
variable {t : TimingSpec}

/-- Data symbols that tell a 1 from a 0 determine the data bits. -/
theorem bitSymbols_injective (ht : bitSymbol t true ≠ bitSymbol t false) : Function.Injective (bitSymbols t) := by
  refine List.map_injective_iff.2 fun b b' h => ?_
  cases b <;> cases b'
  case false.false | true.true => rfl
  case false.true => exact absurd h.symm ht
  case true.false => exact absurd h ht

theorem necBits_inj {a c a' c' : Nat} (ha : a < 2 ^ 8) (ha' : a' < 2 ^ 8) (hc : c < 2 ^ 8) (hc' : c' < 2 ^ 8)
    (h : necBits a c = necBits a' c') : a = a' ∧ c = c' := by
  simp only [necBits, List.append_assoc] at h
  obtain ⟨rfl, hrest⟩ := bitsLsb_append_inj ha ha' h
  exact ⟨rfl, (bitsLsb_append_inj hc hc' (List.append_cancel_left hrest)).1⟩

theorem necExtBits_inj {a c a' c' : Nat} (ha : a < 2 ^ 16) (ha' : a' < 2 ^ 16) (hc : c < 2 ^ 8) (hc' : c' < 2 ^ 8)
    (h : necExtBits a c = necExtBits a' c') : a = a' ∧ c = c' := by
  simp only [necExtBits, List.append_assoc] at h
  obtain ⟨haddr, hrest⟩ := bitsLsb_append_inj ha ha' h
  exact ⟨haddr, (bitsLsb_append_inj hc hc' hrest).1⟩

theorem sonyBits_inj {wa a c a' c' : Nat} (ha : a < 2 ^ wa) (ha' : a' < 2 ^ wa) (hc : c < 2 ^ 7) (hc' : c' < 2 ^ 7)
    (h : sonyBits wa a c = sonyBits wa a' c') : a = a' ∧ c = c' := by
  obtain ⟨hcmd, haddr⟩ := bitsLsb_append_inj hc hc' h
  exact ⟨eq_of_bitsLsb_eq ha ha' haddr, hcmd⟩

theorem sharpData_inj {a c a' c' : Nat} (ha : a < 2 ^ 5) (ha' : a' < 2 ^ 5) (hc : c < 2 ^ 8) (hc' : c' < 2 ^ 8)
    (h : sharpData a c = sharpData a' c') : a = a' ∧ c = c' := by
  obtain ⟨haddr, hcmd⟩ := bitsMsb_append_inj ha ha' h
  exact ⟨haddr, eq_of_bitsMsb_eq hc hc' hcmd⟩

theorem panasonicBits_inj {a c a' c' : Nat} (ha : a < 2 ^ 16) (ha' : a' < 2 ^ 16) (hc : c < 2 ^ 32) (hc' : c' < 2 ^ 32)
    (h : panasonicBits a c = panasonicBits a' c') : a = a' ∧ c = c' := by
  obtain ⟨haddr, hcmd⟩ := bitsLsb_append_inj ha ha' h
  exact ⟨haddr, eq_of_bitsLsb_eq hc hc' hcmd⟩

/-- A frame with a header and perhaps a stop determines its data bits. -/
theorem dataBits_eq_of_frame_eq (ht : bitSymbol t true ≠ bitSymbol t false) {L M : List Bool} {S : List Symbol}
    (h : hdr t ++ bitSymbols t L ++ S = hdr t ++ bitSymbols t M ++ S) : L = M :=
  bitSymbols_injective ht (List.append_cancel_left (List.append_cancel_right h))

theorem sharpData_eq_of_frameSharp_eq (ht : bitSymbol t true ≠ bitSymbol t false) {a c a' c' : Nat}
    (h : frameSharp t a c = frameSharp t a' c') : sharpData a c = sharpData a' c' :=
  List.append_inj_left (bitSymbols_injective ht (List.append_cancel_right h)) (by simp [sharpData])

theorem coolixCopy_eq_of_frameCoolix_eq {x : TimingExt} {c c' : Nat} (h : frameCoolix t x c = frameCoolix t x c') :
    coolixCopy t c = coolixCopy t c' := by
  simp only [frameCoolix, List.append_assoc] at h
  exact List.append_inj_left h (by simp)

/-- An entry that agrees with its pulse-coded class tells a 1 from a 0 (R77): by the space in the pulse-distance class,
by the mark in the pulse-width class. -/
theorem bitSymbol_ne_of_classLegal {P : Proto} (hP : classOf P = some .pulseDistance ∨ classOf P = some .pulseWidth)
    (h : ClassLegal P t) : bitSymbol t true ≠ bitSymbol t false := by
  suffices hdiff : BitSymbolsDiffer t by
    intro heq
    simp only [bitSymbol, if_true, Bool.false_eq_true, if_false, Symbol.mk.injEq] at heq
    exact hdiff.elim (absurd heq.1) (absurd heq.2)
  obtain hclass | hclass := hP <;> simp only [ClassLegal, hclass] at h
  · split at h
    next => exact h
    next => exact .inr fun heq => by simp [PulseDistance, heq] at h
  · exact .inl fun heq => by simp [PulseWidth, heq] at h

end

/-- Settles O31: the symbols determine the bits, and the bits the operands. -/
theorem pulseFramesDetermineTheirOperands : Obligations.PulseFramesDetermineTheirOperands := by
  refine ⟨fun _ _ hP h => bitSymbol_ne_of_classLegal hP h, fun t x a c a' c' ht => ⟨?_, ?_, ?_, ?_, ?_, ?_, ?_⟩⟩
  · exact fun ha ha' hc hc' h => necBits_inj ha ha' hc hc' (dataBits_eq_of_frame_eq ht h)
  · exact fun ha ha' hc hc' h => necExtBits_inj ha ha' hc hc' (dataBits_eq_of_frame_eq ht h)
  · exact fun wa _ ha ha' hc hc' h =>
      sonyBits_inj ha ha' hc hc' (bitSymbols_injective ht (List.append_cancel_left h))
  · exact fun ha ha' hc hc' h => sharpData_inj ha ha' hc hc' (sharpData_eq_of_frameSharp_eq ht h)
  · exact fun ha ha' hc hc' h =>
      panasonicBits_inj ha ha' hc hc' (bitSymbols_injective ht (List.append_cancel_left h))
  · exact fun ha ha' hc hc' h =>
      panasonicBits_inj ha ha' hc hc' (bitSymbols_injective ht (List.append_cancel_left h))
  · intro hc hc' h
    exact eq_of_bitsLsb_eq hc hc'
      (bitSymbols_injective ht (List.append_cancel_left (coolixCopy_eq_of_frameCoolix_eq h)))

end Sys2Proof.Machine
end

section
/-! PROOFS. ENCODE: every row is one operation on a selection (`encodeSel`), and the encoder makes its checks in the
order of R81. From these rules what holds of every row of the family of 41_symbol_encoder. -/

namespace Sys2Proof.Machine

/-! ## The selection behind each row -/

/-- What selects the frame of an ENCODE row; `none` for the reserved Sony variant, which has no frame, and for any other
instruction (`exec_of_encodeSel`, `var3_or_encodeSel_of_isEncode`). -/
def encodeSel : Instr → Option FrameSel
  | .encodeNec => some { proto := .nec }
  | .encodeNecRpt => some { proto := .nec, rpt := true }
  | .encodeNecExt rpt => some { proto := .necExt, rpt := rpt }
  | .encodeSony12 rpt => some { proto := .sony, var := .v12, rpt := rpt }
  | .encodeSony15 rpt => some { proto := .sony, var := .v15, rpt := rpt }
  | .encodeSony20 rpt => some { proto := .sony, var := .v20, rpt := rpt }
  | .encodeRc5 tgl rpt => some { proto := .rc5, rpt := rpt, tgl := tgl }
  | .encodeRc5X tgl rpt => some { proto := .rc5, ext := true, rpt := rpt, tgl := tgl }
  | .encodeRc6 tgl rpt => some { proto := .rc6, rpt := rpt, tgl := tgl }
  | .encodeSamsung rpt => some { proto := .samsung, rpt := rpt }
  | .encodePanasonic rpt => some { proto := .panasonic, rpt := rpt }
  | .encodeJvc rpt => some { proto := .jvc, rpt := rpt }
  | .encodeLg rpt => some { proto := .lg, rpt := rpt }
  | .encodeMitsubishi rpt => some { proto := .mitsubishi, rpt := rpt }
  | .encodeSharp rpt => some { proto := .sharp, rpt := rpt }
  | .encodeDish rpt => some { proto := .dish, rpt := rpt }
  | .encodeAiwa rpt => some { proto := .aiwa, rpt := rpt }
  | .encodeDenon rpt => some { proto := .denon, rpt := rpt }
  | .encodeKaseikyo rpt => some { proto := .kaseikyo, rpt := rpt }
  | .encodeWhynter rpt => some { proto := .whynter, rpt := rpt }
  | .encodeCoolix rpt => some { proto := .coolix, rpt := rpt }
  | .encodeGeneric rpt => some { proto := .generic, rpt := rpt }
  | _ => none

theorem exec_of_encodeSel {i : Instr} {sel : FrameSel} (h : encodeSel i = some sel) (s : State) :
    exec i s = .next (encodeOp params sel s) := by
  cases i with
  | encodeNec | encodeNecRpt | encodeNecExt | encodeSony12 | encodeSony15 | encodeSony20 | encodeRc5 | encodeRc5X
  | encodeRc6 | encodeSamsung | encodePanasonic | encodeJvc | encodeLg | encodeMitsubishi | encodeSharp | encodeDish
  | encodeAiwa | encodeDenon | encodeKaseikyo | encodeWhynter | encodeCoolix | encodeGeneric => cases h; rfl
  | _ => cases h

/-- The ENCODE rows are the reserved Sony variant and the rows that select a frame. -/
theorem var3_or_encodeSel_of_isEncode {i : Instr} (h : isEncode i = true) :
    i = .encodeSonyVar3 ∨ ∃ sel, encodeSel i = some sel := by
  cases i with
  | encodeSonyVar3 => exact .inl rfl
  | encodeNec | encodeNecRpt | encodeNecExt | encodeSony12 | encodeSony15 | encodeSony20 | encodeRc5 | encodeRc5X
  | encodeRc6 | encodeSamsung | encodePanasonic | encodeJvc | encodeLg | encodeMitsubishi | encodeSharp | encodeDish
  | encodeAiwa | encodeDenon | encodeKaseikyo | encodeWhynter | encodeCoolix | encodeGeneric => exact .inr ⟨_, rfl⟩
  | _ => simp [isEncode, opCode, encode, plainWord, frameWord] at h

theorem exec_encodeSonyVar3 (s : State) : exec .encodeSonyVar3 s = .next (illegalWith 4 .sonyVar3 2 s) :=
  congrArg Host.Outcome.next (raiseIllegal_eq_illegalWith rfl .sonyVar3 .invalidArgument s)

/-- The tables of R61 and R75 as the machine reads them: the selection behind a form has the form's protocol, widths
and minimum capacity. -/
theorem encodeSel_of_mem_forms {tgl rpt : Bool} {r : Form} (h : r ∈ forms tgl rpt) :
    ∃ sel, encodeSel r.encode = some sel ∧ sel.proto = r.proto ∧ waddr params sel = r.waddr ∧
      wcmd params sel = r.wcmd ∧ mincap params sel = r.mincap := by
  simp only [forms, List.mem_cons, List.not_mem_nil, or_false] at h
  obtain rfl | rfl | rfl | rfl | rfl | rfl | rfl | rfl | rfl | rfl | rfl | rfl | rfl | rfl | rfl | rfl | rfl | rfl |
    rfl | rfl | rfl | rfl := h <;> exact ⟨_, rfl, rfl, rfl, rfl, rfl⟩

/-! ## The checks of the encoder, in their order (R81, R82) -/

section
variable {p : Params} {sel : FrameSel} {x0 x1 : Word} {cap : Nat}

theorem hasEnc_of_hasFrameRule (p : Params) {P : Proto} (h : hasFrameRule P = true) : hasEnc p P = true := by
  simp [hasEnc, h]

theorem encodeFrame_of_no_encoder (h : hasEnc p sel.proto = false) :
    encodeFrame p sel x0 x1 cap = .error .unsupportedProtocol := if_pos h

theorem encodeFrame_of_too_wide (henc : hasEnc p sel.proto = true) (hstrict : p.strict = true)
    (hwide : 2 ^ waddr p sel ≤ x0.toNat ∨ 2 ^ wcmd p sel ≤ x1.toNat) :
    encodeFrame p sel x0 x1 cap = .error .invalidArgument := by
  have hunfit : (fits (waddr p sel) x0 && fits (wcmd p sel) x1) = false := by
    simpa [fits, Decidable.imp_iff_not_or] using hwide
  simp [encodeFrame, henc, hstrict, hunfit]

/-- Operands within their widths pass the check of R82 and reach the frame rule as they are. -/
theorem encodeFrame_of_fit (henc : hasEnc p sel.proto = true) (h0 : x0.toNat < 2 ^ waddr p sel)
    (h1 : x1.toNat < 2 ^ wcmd p sel) :
    encodeFrame p sel x0 x1 cap =
      if p.nsym < cap then .error .invalidArgument
      else if cap < mincap p sel then .error .bufferTooSmall
      else if cap < (frame p sel x0.toNat x1.toNat).length then .error .bufferTooSmall
      else .ok (frame p sel x0.toNat x1.toNat) := by
  simp [encodeFrame, henc, fits, h0, h1, mask, Nat.mod_eq_of_lt]

/-- A value that fits a 32-bit register. -/
theorem toNat_ofNat_of_lt {n : Nat} (h : n < 2 ^ 32) : (BitVec.ofNat 32 n).toNat = n := by
  rw [BitVec.toNat_ofNat, Nat.mod_eq_of_lt h]

/-- Under `STRICT = 0` the encoder sees the operands masked to their widths. -/
theorem encodeFrame_masked (hstrict : p.strict = false) :
    encodeFrame p sel (BitVec.ofNat 32 (x0.toNat % 2 ^ waddr p sel)) (BitVec.ofNat 32 (x1.toNat % 2 ^ wcmd p sel)) cap =
      encodeFrame p sel x0 x1 cap := by
  have hmask (x : Word) (n : Nat) : mask n (BitVec.ofNat 32 (x.toNat % 2 ^ n)).toNat = mask n x.toNat := by
    rw [mask, toNat_ofNat_of_lt ((Nat.mod_le _ _).trans_lt x.isLt), Nat.mod_mod, mask]
  rw [encodeFrame, encodeFrame, hmask, hmask, hstrict]
  rfl

end

/-! ## ENCODE by the encoder's answer -/

section
variable {p : Params} {sel : FrameSel} {s : State}

theorem encodeOp_of_error {e : ResultCode} (h : encodeFrame p sel s.opa s.opc s.opcap.toNat = .error e) :
    encodeOp p sel s = failedWith (resultCode e) s := by
  simp only [encodeOp, h]
  rfl

theorem encodeOp_of_ok {F : List Symbol} (h : encodeFrame p sel s.opa s.opc s.opcap.toNat = .ok F) :
    encodeOp p sel s = encoded F s := by
  simp only [encodeOp, h]
  rfl

/-- ENCODE with operands within their widths (R81 steps 7 to 11). -/
theorem encodeOp_of_fit (henc : hasEnc params sel.proto = true) (h0 : s.opa.toNat < 2 ^ waddr params sel)
    (h1 : s.opc.toNat < 2 ^ wcmd params sel) {F : List Symbol}
    (hF : orRepeat sel.proto sel.rpt (dataFrame params sel s.opa.toNat s.opc.toNat) = F) :
    encodeOp params sel s =
      if params.nsym < s.opcap.toNat then failedWith 2 s
      else if s.opcap.toNat < mincap params sel then failedWith 3 s
      else if s.opcap.toNat < F.length then failedWith 3 s
      else encoded F s := by
  have hframe := encodeFrame_of_fit (cap := s.opcap.toNat) henc h0 h1
  rw [frame_eq_orRepeat, hF] at hframe
  split_ifs at hframe ⊢
  · exact encodeOp_of_error hframe
  · exact encodeOp_of_error hframe
  · exact encodeOp_of_error hframe
  · exact encodeOp_of_ok hframe

end

/-! ## What holds of every ENCODE -/

/-- Settles O20: a frame is stored with ERR = OK, and every other answer is one of the two rejections. -/
theorem failedEncodeChangesOnlyErrAndRes0 : Obligations.FailedEncodeChangesOnlyErrAndRes0 := by
  intro i s hi
  obtain rfl | ⟨sel, hsel⟩ := var3_or_encodeSel_of_isEncode hi
  · exact ⟨_, exec_encodeSonyVar3 s, fun _ => (if_pos rfl).symm⟩
  · refine ⟨_, exec_of_encodeSel hsel s, fun herr => ?_⟩
    have hvar3 : i ≠ .encodeSonyVar3 := by rintro rfl; cases hsel
    rw [if_neg hvar3]
    obtain ⟨e, _, heq⟩ | ⟨F, _, heq⟩ := encodeOp_cases params sel s
    · rw [heq]
      rfl
    · rw [heq] at herr
      exact absurd rfl herr

/-- The entries `0 .. SYMLEN-1` after a frame that fits its register are the frame (R81 step 11). -/
theorem symGet_encoded {F : List Symbol} {s : State} (hwf : Memory.wf s.sym = true) (hF : F.length < 2 ^ 32) {k : Nat}
    (hk : k < (encoded F s).symLen.toNat) : symGet (encoded F s).sym k = F[k]? := by
  have hlen : (encoded F s).symLen.toNat = F.length := toNat_ofNat_of_lt hF
  have hread := symGet_memWrite F hwf 0 k
  rwa [if_pos ⟨Nat.zero_le k, by omega⟩] at hread

/-- Settles O23: the encoder's answer is a function of the three operands, and it alone decides what ENCODE writes. -/
theorem encodeReadsOnlyItsOperands : Obligations.EncodeReadsOnlyItsOperands := by
  intro i s s' t t' hi hopa hopc hopcap hwf hwf' ht ht'
  obtain rfl | ⟨sel, hsel⟩ := var3_or_encodeSel_of_isEncode hi
  · rw [exec_encodeSonyVar3] at ht ht'
    cases ht
    cases ht'
    refine ⟨rfl, ?_, nofun⟩
    by_cases hclears : params.illegalClearsRes0 4 .sonyVar3 = true
    · exact .inl ((if_pos hclears).trans (if_pos hclears).symm)
    · exact .inr ⟨rfl, if_neg hclears, if_neg hclears⟩
  · rw [exec_of_encodeSel hsel] at ht ht'
    cases ht
    cases ht'
    cases hanswer : encodeFrame params sel s.opa s.opc s.opcap.toNat with
    | error e =>
      rw [encodeOp_of_error hanswer, encodeOp_of_error (by rw [← hopa, ← hopc, ← hopcap, hanswer])]
      obtain rfl | rfl | rfl := encodeFrame_error hanswer <;> exact ⟨rfl, .inl rfl, nofun⟩
    | ok F =>
      rw [encodeOp_of_ok hanswer, encodeOp_of_ok (s := s') (by rw [← hopa, ← hopc, ← hopcap, hanswer])]
      obtain ⟨_, _, hlen, hcap⟩ := encodeFrame_ok hanswer
      have hF : F.length < 2 ^ 32 := (hlen.trans hcap).trans_lt params_legal.nsym_lt
      exact ⟨rfl, .inl rfl, fun _ => ⟨rfl, fun k hk => by
        rw [symGet_encoded hwf hF hk, symGet_encoded hwf' hF hk]⟩⟩

/-! ## The capacity (R75, R83) -/

/-- Every minimum capacity of a frame rule has room for a repeat frame, and the largest is that of COOLIX (R75): no
capacity is below a minimum and above NSYM at once. -/
theorem mincap_bounds (p : Params) {sel : FrameSel} (h : hasFrameRule sel.proto = true) :
    2 ≤ mincap p sel ∧ mincap p sel ≤ 52 := by
  obtain ⟨P, var, ext, rpt, tgl⟩ := sel
  cases P with
  | nec | necExt | rc5 | rc6 | panasonic | sharp | kaseikyo | coolix => simp [mincap]
  | sony => cases var <;> simp [mincap]
  | _ => cases h

/-- Settles O21: the checks in their order; no width check is in the way of operands that fit. -/
theorem capacityChecks : Obligations.CapacityChecks := by
  constructor
  · intro p sel x0 x1 cap hp hrule h0 h1
    have hframe := encodeFrame_of_fit (cap := cap) (hasEnc_of_hasFrameRule p hrule) h0 h1
    refine ⟨fun hbig => ?_, fun hsmall => ?_, fun F hF => ?_⟩
    · rw [hframe, if_pos hbig]
    · obtain ⟨_, hmincap⟩ := mincap_bounds p hrule
      have hnsym := hp.nsym_ge
      rw [hframe, if_neg (by omega), if_pos hsmall]
    · obtain ⟨_, _, hlen, hcap⟩ := encodeFrame_ok hF
      exact ⟨hlen, hcap⟩
  · intro s tgl rpt r hr h0 h1 hcap
    obtain ⟨sel, hsel, hproto, hwaddr, hwcmd, hmincap⟩ := encodeSel_of_mem_forms hr
    rw [← hwaddr] at h0
    rw [← hwcmd] at h1
    rw [← hmincap] at hcap
    rw [exec_of_encodeSel hsel, ← hproto]
    cases henc : hasEnc params sel.proto
    · rw [if_pos rfl, encodeOp_of_error (encodeFrame_of_no_encoder henc)]
      rfl
    · rw [if_neg (by decide), encodeOp_of_fit henc h0 h1 rfl]
      split_ifs with hbig hsmall
      · rfl
      · rfl
      · rfl
      · exact absurd hcap (by omega)

end Sys2Proof.Machine
end

section
/-! PROOFS. Operands wider than their fields (30_encoding R62, 41_symbol_encoder R82): ENCODE, SEND and SENDN read
`x[0]` and `x[1]` through the encoder and nowhere else, so what the encoder makes of the masked operands is what the
operation makes of them. -/

namespace Sys2Proof.Machine

/-! ## The two operands as a part of the state -/

/-- The state with an address in `x[0]` and a command in `x[1]`. -/
def withOperands (a c : Word) (s : State) : State := { s with opa := a, opc := c }

@[simp] theorem withOperands_init (a c : Word) (s : State) : (withOperands a c s).init = s.init := rfl

@[simp] theorem withOperands_draws (a c : Word) (s : State) : (withOperands a c s).draws = s.draws := rfl

theorem setToggle_withOperands (P : Proto) (v : Bool) (a c : Word) (s : State) :
    setToggle P v (withOperands a c s) = withOperands a c (setToggle P v s) := by
  cases P <;> rfl

theorem toggleOf_withOperands (P : Proto) (a c : Word) (s : State) :
    toggleOf P (withOperands a c s) = toggleOf P s := by
  cases P <;> rfl

theorem sendToggle_withOperands (P : Proto) (auto tgl : Bool) (a c : Word) (s : State) :
    sendToggle P auto tgl (withOperands a c s) = sendToggle P auto tgl s := by
  rw [sendToggle, sendToggle, toggleOf_withOperands]

theorem flipToggle_withOperands (P : Proto) (auto : Bool) (a c : Word) (s : State) :
    flipToggle P auto (withOperands a c s) = withOperands a c (flipToggle P auto s) := by
  rw [flipToggle, flipToggle, toggleOf_withOperands, setToggle_withOperands]
  split <;> rfl

theorem sendOne_withOperands (F : List Symbol) (a c : Word) (s : State) :
    sendOne F (withOperands a c s) = withOperands a c (sendOne F s) := by
  rw [sendOne, sendOne, emit_eq_emitted, emit_eq_emitted]
  rfl

theorem dly_withOperands (n a c : Word) (s : State) : dly n (withOperands a c s) = withOperands a c (dly n s) := rfl

theorem sendRepeats_withOperands (gap : Word) (FR : List Symbol) (n : Nat) (a c : Word) (s : State) :
    sendRepeats gap FR n (withOperands a c s) = withOperands a c (sendRepeats gap FR n s) := by
  induction n generalizing s with
  | zero => rfl
  | succ n ih => rw [sendRepeats, sendRepeats, dly_withOperands, sendOne_withOperands, ih]

theorem sendAll_withOperands (p : Params) (P : Proto) (F : List Symbol) (a c : Word) (s : State) :
    sendAll p P F (withOperands a c s) = withOperands a c (sendAll p P F s) := by
  rw [sendAll, sendAll, sendOne_withOperands, sendRepeats_withOperands]

/-! ## Where an operation reads them -/

/-- From `s` on, whatever `x[0]` and `x[1]` hold, the operation `f` asks the encoder for the frame of `sel` and goes on
from its answer alone; an answer that is no frame is raised. -/
def AsksEncoder (sel : FrameSel) (s : State) (f : State → State) : Prop :=
  ∃ (cap : Nat) (onAnswer : Except ResultCode (List Symbol) → State),
    (∀ e, onAnswer (.error e) = failedWith (resultCode e) s) ∧
    ∀ a c, f (withOperands a c s) = withOperands a c (onAnswer (encodeFrame params sel a c cap))

/-- What ENCODE makes of the encoder's answer. -/
def encodeOnAnswer (s : State) : Except ResultCode (List Symbol) → State
  | .error e => failedWith (resultCode e) s
  | .ok F => encoded F s

theorem encodeOp_eq_onAnswer (sel : FrameSel) (s : State) :
    encodeOp params sel s = encodeOnAnswer s (encodeFrame params sel s.opa s.opc s.opcap.toNat) := by
  cases hanswer : encodeFrame params sel s.opa s.opc s.opcap.toNat with
  | error e => exact encodeOp_of_error hanswer
  | ok F => exact encodeOp_of_ok hanswer

theorem encodeOnAnswer_withOperands (a c : Word) (s : State) (r : Except ResultCode (List Symbol)) :
    encodeOnAnswer (withOperands a c s) r = withOperands a c (encodeOnAnswer s r) := by
  cases r <;> rfl

theorem asksEncoder_encodeOp (sel : FrameSel) (s : State) : AsksEncoder sel s (encodeOp params sel) :=
  ⟨s.opcap.toNat, encodeOnAnswer s, fun _ => rfl, fun a c =>
    (encodeOp_eq_onAnswer sel (withOperands a c s)).trans (encodeOnAnswer_withOperands a c s _)⟩

/-- What SEND and SENDN of `P` with the emission `out` make of the encoder's answer. -/
def sendOnAnswer (P : Proto) (auto : Bool) (out : List Symbol → State → State) (s : State) :
    Except ResultCode (List Symbol) → State
  | .error e => failedWith (resultCode e) s
  | .ok F =>
    if s.init = false then failedWith 1 s
    else if params.hwOk s.draws then raise .ok (flipToggle P auto (out F (configureFor params P (attempt s))))
    else configurationFailed s

theorem sendWith_eq_onAnswer (sel : FrameSel) (auto : Bool) (out : List Symbol → State → State) (s : State) :
    sendWith params sel auto out s = sendOnAnswer sel.proto auto out s (sendFrame params sel auto s) := by
  unfold sendWith
  cases sendFrame params sel auto s <;> rfl

section
variable {out : List Symbol → State → State} (hout : ∀ F a c s, out F (withOperands a c s) = withOperands a c (out F s))
include hout

theorem sendOnAnswer_withOperands (P : Proto) (auto : Bool) (a c : Word) (s : State)
    (r : Except ResultCode (List Symbol)) :
    sendOnAnswer P auto out (withOperands a c s) r = withOperands a c (sendOnAnswer P auto out s r) := by
  cases r with
  | error e => rfl
  | ok F =>
    have hconf : configureFor params P (attempt (withOperands a c s)) =
        withOperands a c (configureFor params P (attempt s)) := rfl
    simp only [sendOnAnswer, withOperands_init, withOperands_draws, hconf, hout, flipToggle_withOperands]
    split_ifs <;> rfl

/-- SEND and SENDN, for an emission that reads no operand. -/
theorem asksEncoder_sendWith (sel : FrameSel) (auto : Bool) (s : State) :
    AsksEncoder { sel with tgl := sendToggle sel.proto auto sel.tgl s } s (sendWith params sel auto out) := by
  refine ⟨params.nsym, sendOnAnswer sel.proto auto out s, fun _ => rfl, fun a c => ?_⟩
  rw [sendWith_eq_onAnswer, sendOnAnswer_withOperands hout, sendFrame, sendToggle_withOperands]
  rfl

end

/-- A SEND or SENDN is its operation, with the selection of the ENCODE whose frame it takes and the toggle bit of R134
step 2 in it. -/
theorem exec_of_encodeOf {s : State} {i j : Instr} {sel : FrameSel} (h : encodeOf s i = some j)
    (hsel : encodeSel j = some sel) :
    ∃ sel' auto, ((∀ s', exec i s' = .next (sendOp params sel' auto s')) ∨
        ∀ s', exec i s' = .next (sendnOp params sel' auto s')) ∧
      sel = { sel' with tgl := sendToggle sel'.proto auto sel'.tgl s } := by
  cases i with
  | sendNec | sendNecRpt | sendNecExt | sendSony12 | sendSony15 | sendSony20 | sendSharp | sendPanasonic | sendKaseikyo
  | sendCoolix | sendSamsung | sendJvc | sendLg | sendMitsubishi | sendDish | sendAiwa | sendDenon | sendWhynter
  | sendGeneric => cases h; cases hsel; exact ⟨_, _, .inl fun _ => rfl, rfl⟩
  | sendRc5 _ auto | sendRc5X _ auto | sendRc6 _ auto =>
    cases h; cases hsel; exact ⟨_, _, .inl fun _ => rfl, by cases auto <;> rfl⟩
  | sendnNec | sendnNecRpt | sendnNecExt | sendnSony12 | sendnSony15 | sendnSony20 | sendnSharp | sendnPanasonic
  | sendnKaseikyo | sendnCoolix | sendnSamsung | sendnJvc | sendnLg | sendnMitsubishi | sendnDish | sendnAiwa
  | sendnDenon | sendnWhynter | sendnGeneric => cases h; cases hsel; exact ⟨_, _, .inr fun _ => rfl, rfl⟩
  | sendnRc5 _ auto | sendnRc5X _ auto | sendnRc6 _ auto =>
    cases h; cases hsel; exact ⟨_, _, .inr fun _ => rfl, by cases auto <;> rfl⟩
  | _ => cases h

/-- An ENCODE, and the SEND and SENDN that take its frame, ask the encoder for the frame of one selection. -/
theorem exec_asksEncoder {s : State} {i j : Instr} {sel : FrameSel} (hi : i = j ∨ encodeOf s i = some j)
    (hsel : encodeSel j = some sel) : ∃ f, (∀ s', exec i s' = .next (f s')) ∧ AsksEncoder sel s f := by
  obtain rfl | hi := hi
  · exact ⟨_, exec_of_encodeSel hsel, asksEncoder_encodeOp sel s⟩
  · obtain ⟨sel', auto, hexec | hexec, rfl⟩ := exec_of_encodeOf hi hsel
    · exact ⟨_, hexec, asksEncoder_sendWith sendOne_withOperands sel' auto s⟩
    · exact ⟨_, hexec, asksEncoder_sendWith (sendAll_withOperands params sel'.proto) sel' auto s⟩

/-! ## The policy -/

/-- An operation that asks the encoder, on an operand that is too wide (R82). -/
theorem AsksEncoder.of_too_wide {sel : FrameSel} {s : State} {f : State → State} (h : AsksEncoder sel s f)
    (hwide : 2 ^ waddr params sel ≤ s.opa.toNat ∨ 2 ^ wcmd params sel ≤ s.opc.toNat) :
    f s =
      if hasEnc params sel.proto = false then failedWith 4 s
      else if params.strict = true then failedWith 2 s
      else withOperands s.opa s.opc
        (f (withOperands (BitVec.ofNat 32 (s.opa.toNat % 2 ^ waddr params sel))
          (BitVec.ofNat 32 (s.opc.toNat % 2 ^ wcmd params sel)) s)) := by
  obtain ⟨cap, onAnswer, herror, hf⟩ := h
  have hs : f s = withOperands s.opa s.opc (onAnswer (encodeFrame params sel s.opa s.opc cap)) := hf s.opa s.opc
  rw [hs]
  split_ifs with henc hstrict
  · rw [encodeFrame_of_no_encoder henc, herror]
    rfl
  · rw [encodeFrame_of_too_wide (by simpa using henc) hstrict hwide, herror]
    rfl
  · rw [hf, encodeFrame_masked (by simpa using hstrict)]
    rfl

/-- Settles O22: the encoder's width check, and every operation of a form through it. -/
theorem outOfWidthOperandsFollowThePolicy : Obligations.OutOfWidthOperandsFollowThePolicy := by
  refine ⟨fun p sel x0 x1 cap henc => ⟨encodeFrame_of_too_wide henc, fun hstrict => ?_⟩, ?_⟩
  · exact (encodeFrame_masked hstrict).symm
  · intro s tgl rpt r hr i hi hwide
    obtain ⟨sel, hsel, hproto, hwaddr, hwcmd, _⟩ := encodeSel_of_mem_forms hr
    obtain ⟨f, hexec, hasks⟩ := exec_asksEncoder hi hsel
    rw [← hwaddr, ← hwcmd] at hwide ⊢
    refine ⟨_, hexec _, ?_⟩
    rw [hexec, ← hproto, hasks.of_too_wide hwide]
    rfl

end Sys2Proof.Machine
end

section
/-! PROOFS. The rows ENCODE.* one by one (41_symbol_encoder R89 to R106, 42_manchester R113 to R115): the frame of each
protocol fits its minimum capacity, so a row with operands and a capacity in range stores it. -/

namespace Sys2Proof.Machine

/-! ## A frame fits the minimum capacity (R75) -/

theorem cells_length (first : Bool → Bool) (hb : Nat) (L : List Bool) : (cells first hb L).length = 2 * L.length := by
  simp [cells, cell, Nat.mul_comm]

theorem frameRc5_length_le (ts : TimingSpec) (a c : Nat) (t : Bool) : (frameRc5 ts a c t).length ≤ 14 :=
  (pack_length_le (cells rc5First (halfBit ts) (rc5Bits a c t))).trans (by simp [cells_length, rc5Bits])

theorem frameRc5x_length_le (ts : TimingSpec) (a c : Nat) (t : Bool) : (frameRc5x ts a c t).length ≤ 14 :=
  (pack_length_le (cells rc5First (halfBit ts) (rc5xBits a c t))).trans (by simp [cells_length, rc5xBits])

theorem frameRc6_length_le (ts : TimingSpec) (a c : Nat) (t : Bool) : (frameRc6 ts a c t).length ≤ 22 :=
  (pack_length_le (rc6Runs ts a c t)).trans (by simp [cells_length, cell, rc6Runs])

/-- The data frame of every frame rule but that of RC6 fits the protocol's minimum capacity. -/
theorem dataFrame_length_le_mincap (p : Params) {sel : FrameSel} (hrule : hasFrameRule sel.proto = true)
    (hrc6 : sel.proto ≠ .rc6) (a c : Nat) : (dataFrame p sel a c).length ≤ mincap p sel := by
  obtain ⟨P, var, ext, rpt, tgl⟩ := sel
  have hstop := stop_length_le (p.timing P)
  cases P with
  | nec => simp only [dataFrame, mincap, frameNec_length]; omega
  | necExt => simp only [dataFrame, mincap, frameNecExt_length]; omega
  | sony => cases var <;> simp only [dataFrame, mincap, waddr, frameSony_length] <;> decide
  | rc5 =>
    cases ext
    case false => exact frameRc5_length_le _ a c tgl
    case true => exact frameRc5x_length_le _ a c tgl
  | rc6 => exact absurd rfl hrc6
  | panasonic | kaseikyo => exact (framePanasonic_length _ a c).le
  | sharp => simp only [dataFrame, mincap, frameSharp_length]; omega
  | coolix => simp only [dataFrame, mincap, frameCoolix_length]; omega
  | _ => cases hrule

/-- A repeat frame in the place of a data frame needs two symbols at most (R91). -/
theorem orRepeat_length_le {P : Proto} {rpt : Bool} {F : List Symbol} {n : Nat} (hn : 2 ≤ n) (hF : F.length ≤ n) :
    (orRepeat P rpt F).length ≤ n := by
  unfold orRepeat
  split
  · exact (repeatFrame_length_le params P).trans hn
  · exact hF

/-! ## A row stores its frame -/

section
variable {sel : FrameSel} {s : State} {F : List Symbol}

/-- A row with a frame rule, its operands within their widths and a capacity in range: what is left is whether the frame
fits, which only that of RC6 may not. -/
theorem exec_of_inRange (i : Instr) (hi : encodeSel i = some sel) (hrule : hasFrameRule sel.proto = true)
    (h0 : s.opa.toNat < 2 ^ waddr params sel) (h1 : s.opc.toNat < 2 ^ wcmd params sel)
    (hmin : mincap params sel ≤ s.opcap.toNat) (hmax : s.opcap.toNat ≤ params.nsym)
    (hF : orRepeat sel.proto sel.rpt (dataFrame params sel s.opa.toNat s.opc.toNat) = F) :
    exec i s = .next (if F.length ≤ s.opcap.toNat then encoded F s else failedWith 3 s) := by
  rw [exec_of_encodeSel hi, encodeOp_of_fit (hasEnc_of_hasFrameRule params hrule) h0 h1 hF, if_neg hmax.not_gt,
    if_neg hmin.not_gt, ← ite_not]
  simp only [not_lt]

/-- A row with a frame rule other than that of RC6, its operands within their widths and a capacity in range. -/
theorem exec_stores_frame (i : Instr) (hi : encodeSel i = some sel) (hrule : hasFrameRule sel.proto = true)
    (hrc6 : sel.proto ≠ .rc6) (h0 : s.opa.toNat < 2 ^ waddr params sel) (h1 : s.opc.toNat < 2 ^ wcmd params sel)
    (hmin : mincap params sel ≤ s.opcap.toNat) (hmax : s.opcap.toNat ≤ params.nsym) :
    exec i s =
      .next (encoded (orRepeat sel.proto sel.rpt (dataFrame params sel s.opa.toNat s.opc.toNat)) s) := by
  have hlen := orRepeat_length_le (P := sel.proto) (rpt := sel.rpt) (mincap_bounds params hrule).1
    (dataFrame_length_le_mincap params hrule hrc6 s.opa.toNat s.opc.toNat)
  rw [exec_of_inRange i hi hrule h0 h1 hmin hmax rfl, if_pos (hlen.trans hmin)]

end

/-- Settles O16: the rule of each row is the frame of its selection; `255 - v` is `not_8(v)` on a byte. -/
theorem encodeNecAndSonyStoreTheFrame : Obligations.EncodeNecAndSonyStoreTheFrame := by
  refine ⟨fun s h0 h1 hmin hmax => ?_, fun s h0 h1 hmin hmax => ?_, fun s rpt h0 h1 hmin hmax => ?_,
    fun s rpt h0 h1 hmin hmax => ?_, fun s rpt h0 h1 hmin hmax => ?_, fun s rpt h0 h1 hmin hmax => ?_,
    exec_encodeSonyVar3⟩
  · rw [← not8_of_lt h0, ← not8_of_lt h1]
    exact exec_stores_frame .encodeNec rfl rfl nofun h0 h1 hmin hmax
  · exact exec_stores_frame .encodeNecRpt rfl rfl nofun h0 h1 hmin hmax
  · rw [← not8_of_lt h1]
    exact exec_stores_frame (.encodeNecExt rpt) rfl rfl nofun h0 h1 hmin hmax
  · exact exec_stores_frame (.encodeSony12 rpt) rfl rfl nofun h0 h1 hmin hmax
  · exact exec_stores_frame (.encodeSony15 rpt) rfl rfl nofun h0 h1 hmin hmax
  · exact exec_stores_frame (.encodeSony20 rpt) rfl rfl nofun h0 h1 hmin hmax

/-- Settles O17. A command of 32 bits fits any register value; the address of COOLIX has no bits. -/
theorem encodeSharpPanasonicKaseikyoCoolixStoreTheFrame :
    Obligations.EncodeSharpPanasonicKaseikyoCoolixStoreTheFrame := by
  refine ⟨fun s rpt h0 h1 hmin hmax => ?_, fun s rpt h0 hmin hmax => ?_, fun s rpt h0 hmin hmax => ?_,
    fun s rpt h0 h1 hmin hmax => ?_⟩
  · exact exec_stores_frame (.encodeSharp rpt) rfl rfl nofun h0 h1 hmin hmax
  · exact exec_stores_frame (.encodePanasonic rpt) rfl rfl nofun h0 s.opc.isLt hmin hmax
  · exact exec_stores_frame (.encodeKaseikyo rpt) rfl rfl nofun h0 s.opc.isLt hmin hmax
  · have hzero : s.opa.toNat < 2 ^ 0 := by simp [h0]
    exact exec_stores_frame (.encodeCoolix rpt) rfl rfl nofun hzero h1 hmin hmax

/-- Settles O18. -/
theorem encodeManchesterStoresTheFrame : Obligations.EncodeManchesterStoresTheFrame := by
  refine ⟨fun s tgl rpt h0 h1 hmin hmax => ?_, fun s tgl rpt h0 h1 hmin hmax => ?_,
    fun s tgl rpt h0 h1 hmin hmax => ?_, frameRc6_length_le (params.timing .rc6)⟩
  · exact exec_stores_frame (.encodeRc5 tgl rpt) rfl rfl nofun h0 h1 hmin hmax
  · exact exec_stores_frame (.encodeRc5X tgl rpt) rfl rfl nofun h0 h1 hmin hmax
  · exact exec_of_inRange (.encodeRc6 tgl rpt) rfl rfl h0 h1 hmin hmax rfl

/-! ## Protocols without a frame rule (R97, R98) -/

theorem hasEnc_of_no_frameRule (p : Params) {P : Proto} (hrule : hasFrameRule P = false) :
    hasEnc p P = (p.encExt P).isSome := by
  simp [hasEnc, hrule]

/-- A protocol without a frame rule has the widths of its registry record, and the minimum capacity and the frame of its
ENC_EXT (R61, R75, R97). -/
theorem selection_of_encExt {p : Params} {P : Proto} {e : EncExt} (hrule : hasFrameRule P = false)
    (he : p.encExt P = some e) (rpt : Bool) :
    waddr p { proto := P, rpt := rpt } = (info p P).addressBits.toNat ∧
      wcmd p { proto := P, rpt := rpt } = (info p P).commandBits.toNat ∧
      mincap p { proto := P, rpt := rpt } = e.minCap ∧
      ∀ a c, dataFrame p { proto := P, rpt := rpt } a c = e.frame a c := by
  cases P with
  | nec | necExt | sony | rc5 | rc6 | panasonic | sharp | kaseikyo | coolix => cases hrule
  | _ => exact ⟨rfl, rfl, by simp [mincap, he], fun a c => by simp [dataFrame, he]⟩

theorem encodeOp_of_no_encExt {p : Params} {sel : FrameSel} (hrule : hasFrameRule sel.proto = false)
    (hnone : p.encExt sel.proto = none) (s : State) : encodeOp p sel s = failedWith 4 s := by
  have henc : hasEnc p sel.proto = false := by rw [hasEnc_of_no_frameRule p hrule, hnone]; rfl
  exact encodeOp_of_error (encodeFrame_of_no_encoder henc)

/-- ENCODE by `ENC_EXT[P]`, on operands within the widths of the registry. -/
theorem encodeOp_of_encExt {P : Proto} {e : EncExt} (hrule : hasFrameRule P = false) (he : params.encExt P = some e)
    {s : State} (h0 : s.opa.toNat < 2 ^ (info params P).addressBits.toNat)
    (h1 : s.opc.toNat < 2 ^ (info params P).commandBits.toNat) {rpt : Bool} {F : List Symbol}
    (hF : orRepeat P rpt (e.frame s.opa.toNat s.opc.toNat) = F) :
    encodeOp params { proto := P, rpt := rpt } s =
      if params.nsym < s.opcap.toNat then failedWith 2 s
      else if s.opcap.toNat < e.minCap ∨ s.opcap.toNat < F.length then failedWith 3 s
      else encoded F s := by
  have henc : hasEnc params P = true := by rw [hasEnc_of_no_frameRule params hrule, he]; rfl
  obtain ⟨hwaddr, hwcmd, hmincap, hframe⟩ := selection_of_encExt hrule he rpt
  rw [← hwaddr] at h0
  rw [← hwcmd] at h1
  rw [← hframe] at hF
  rw [encodeOp_of_fit henc h0 h1 hF, hmincap, ite_or]

/-- Settles O19, by whether ENC_EXT is given. -/
theorem encodeWithoutAFrameRule : Obligations.EncodeWithoutAFrameRule := by
  refine ⟨fun p sel s hrule hnone => encodeOp_of_no_encExt hrule hnone s, fun s rpt q hq h0 h1 => ?_⟩
  have hrow : encodeSel q.1 = some { proto := q.2, rpt := rpt } ∧ hasFrameRule q.2 = false := by
    simp only [List.mem_cons, List.not_mem_nil, or_false] at hq
    obtain rfl | rfl | rfl | rfl | rfl | rfl | rfl | rfl | rfl := hq <;> exact ⟨rfl, rfl⟩
  obtain ⟨hsel, hrule⟩ := hrow
  rw [exec_of_encodeSel hsel]
  cases he : params.encExt q.2 with
  | none => exact congrArg Host.Outcome.next (encodeOp_of_no_encExt hrule he s)
  | some e => exact congrArg Host.Outcome.next (encodeOp_of_encExt hrule he h0 h1 rfl)

end Sys2Proof.Machine
end

section
/-! PROOFS. A Manchester frame determines its bits (42_manchester R111 to R115, 41_symbol_encoder R108). Merging is
written with the run that may still grow as an argument, so that it is an induction over the cells: the two halves of
a cell differ in level, so only the first half of a cell can lengthen that run, and whether it does tells the bit.
The packed symbols give the durations of the merged runs back, since none is 0 and none is cut to 32 bits. -/

namespace Sys2Proof.Machine

/-! ## Merging, run by run (R112) -/

/-- `MERGE` of the run `l`, which may still grow, and the runs that follow it. -/
def mergeFrom (l : Run) : List Run → List Run
  | [] => [l]
  | r :: R =>
    if r.us = 0 then mergeFrom l R
    else if l.level = r.level then mergeFrom ⟨l.level, l.us + r.us⟩ R
    else l :: mergeFrom r R

theorem foldl_mergeRun_append (M : List Run) (l : Run) (R : List Run) :
    R.foldl mergeRun (M ++ [l]) = M ++ mergeFrom l R := by
  induction R generalizing M l with
  | nil => rfl
  | cons r R ih =>
    rw [List.foldl_cons, mergeFrom]
    split_ifs with hus hlevel
    · rw [mergeRun, if_pos hus, ih]
    · have hgrow : mergeRun (M ++ [l]) r = M ++ [⟨l.level, l.us + r.us⟩] := by
        simp [mergeRun, hus, hlevel]
      rw [hgrow, ih]
    · have hnew : mergeRun (M ++ [l]) r = (M ++ [l]) ++ [r] := by
        simp [mergeRun, hus, hlevel]
      rw [hnew, ih, List.append_assoc]
      rfl

theorem merge_cons {r : Run} (hr : r.us ≠ 0) (R : List Run) : merge (r :: R) = mergeFrom r R := by
  have hfirst : mergeRun [] r = [r] := by simp [mergeRun, hr]
  rw [merge, List.foldl_cons, hfirst]
  exact foldl_mergeRun_append [] r R

/-- A run of another level ends the growth of `l`. -/
theorem mergeFrom_cons_of_ne {l r : Run} (hr : r.us ≠ 0) (hlevel : l.level ≠ r.level) (R : List Run) :
    mergeFrom l (r :: R) = l :: mergeFrom r R := by
  rw [mergeFrom, if_neg hr, if_neg hlevel]

/-- The first half of a cell lengthens the run before it or ends its growth; the second half may grow in turn. -/
theorem mergeFrom_cell (first : Bool → Bool) {hb w : Nat} (b : Bool) (hw : w * hb ≠ 0) (l : Run) (R : List Run) :
    mergeFrom l (cell first hb b w ++ R) =
      if l.level = first b then ⟨l.level, l.us + w * hb⟩ :: mergeFrom ⟨!first b, w * hb⟩ R
      else l :: ⟨first b, w * hb⟩ :: mergeFrom ⟨!first b, w * hb⟩ R := by
  have hsecond (n : Nat) :
      mergeFrom ⟨first b, n⟩ (⟨!first b, w * hb⟩ :: R) = ⟨first b, n⟩ :: mergeFrom ⟨!first b, w * hb⟩ R :=
    mergeFrom_cons_of_ne hw (by simp) R
  simp only [cell, List.cons_append, List.nil_append]
  split_ifs with hlevel
  · rw [mergeFrom, if_neg hw, if_pos hlevel, hlevel, hsecond]
  · rw [mergeFrom_cons_of_ne hw hlevel, hsecond]

/-! ## Cells of several widths -/

/-- The cells of a list of bits, each with its width (R111). -/
def wideCells (first : Bool → Bool) (hb : Nat) (L : List (Bool × Nat)) : List Run :=
  L.flatMap fun q => cell first hb q.1 q.2

/-- Bits of ordinary width. -/
def ordinary (L : List Bool) : List (Bool × Nat) := L.map fun b => (b, 1)

theorem ordinary_injective : Function.Injective ordinary :=
  List.map_injective_iff.2 fun _ _ h => (Prod.mk.inj h).1

theorem map_snd_ordinary (L : List Bool) : (ordinary L).map Prod.snd = List.replicate L.length 1 := by
  simp [ordinary, Function.comp_def]

theorem cells_eq_wideCells (first : Bool → Bool) (hb : Nat) (L : List Bool) :
    cells first hb L = wideCells first hb (ordinary L) := by
  rw [cells, wideCells, ordinary, List.flatMap_map]

/-- A cell of width `w` may follow one of width `v`: halves that merge last three half-bit times at most, which the
premise of R87 keeps within a duration field. -/
abbrev MayFollow (v w : Nat) : Prop := 1 ≤ w ∧ v + w ≤ 3

theorem mayFollow_ordinary (L : List Bool) : List.IsChain MayFollow (1 :: (ordinary L).map Prod.snd) := by
  rw [map_snd_ordinary]
  exact List.isChain_replicate_of_rel (L.length + 1) (a := 1) (by decide)

section
variable {first : Bool → Bool} {hb : Nat}

/-- The durations of the merged runs determine the bits of cells of given widths. -/
theorem bits_eq_of_mergeFrom_us_eq (hfirst : Function.Injective first) (hhb : 1 ≤ hb) {L L' : List (Bool × Nat)}
    (hwidth : L.map Prod.snd = L'.map Prod.snd) {v : Nat} (hchain : List.IsChain MayFollow (v :: L.map Prod.snd))
    {x : Bool} (h : (mergeFrom ⟨x, v * hb⟩ (wideCells first hb L)).map Run.us =
      (mergeFrom ⟨x, v * hb⟩ (wideCells first hb L')).map Run.us) : L = L' := by
  induction L generalizing L' v x with
  | nil => exact (List.map_eq_nil_iff.1 hwidth.symm).symm
  | cons q L ih =>
    obtain ⟨b, w⟩ := q
    cases L' with
    | nil => cases hwidth
    | cons q' L' =>
      obtain ⟨b', w'⟩ := q'
      obtain ⟨rfl, hwidths⟩ := List.cons.inj hwidth
      obtain ⟨⟨hw, _⟩, hchains⟩ := List.isChain_cons_cons.1 hchain
      have hus : w * hb ≠ 0 := (Nat.mul_pos hw hhb).ne'
      have hcons (b : Bool) (L : List (Bool × Nat)) :
          wideCells first hb ((b, w) :: L) = cell first hb b w ++ wideCells first hb L := rfl
      rw [hcons, hcons, mergeFrom_cell first b hus, mergeFrom_cell first b' hus] at h
      by_cases hbit : b = b'
      · subst hbit
        have hrest : (mergeFrom ⟨!first b, w * hb⟩ (wideCells first hb L)).map Run.us =
            (mergeFrom ⟨!first b, w * hb⟩ (wideCells first hb L')).map Run.us := by
          split_ifs at h <;> simpa using h
        rw [ih hwidths hchains hrest]
      · have hlevels : first b ≠ first b' := fun heq => hbit (hfirst heq)
        split_ifs at h with hlong hlong' hlong'
        · exact absurd (hlong.symm.trans hlong') hlevels
        · simp only [List.map_cons, List.cons.injEq] at h
          omega
        · simp only [List.map_cons, List.cons.injEq] at h
          omega
        · exact absurd ((Bool.eq_not.2 (Ne.symm hlong)).trans (Bool.eq_not.2 (Ne.symm hlong')).symm) hlevels

/-- No merged run is empty or cut to 32 bits under the premise of R87. -/
theorem us_bounds_of_mem_mergeFrom (hhb : 1 ≤ hb) (h32 : 3 * hb < 2 ^ 32) {L : List (Bool × Nat)} {v : Nat}
    (hv : 1 ≤ v ∧ v ≤ 3) (hchain : List.IsChain MayFollow (v :: L.map Prod.snd)) {x : Bool} {r : Run}
    (hr : r ∈ mergeFrom ⟨x, v * hb⟩ (wideCells first hb L)) : 0 < r.us ∧ r.us < 2 ^ 32 := by
  have hbound {n : Nat} (h : 1 ≤ n ∧ n ≤ 3) : 0 < n * hb ∧ n * hb < 2 ^ 32 :=
    ⟨Nat.mul_pos h.1 hhb, (Nat.mul_le_mul_right hb h.2).trans_lt h32⟩
  induction L generalizing v x with
  | nil =>
    obtain rfl := List.mem_singleton.1 hr
    exact hbound hv
  | cons q L ih =>
    obtain ⟨b, w⟩ := q
    obtain ⟨⟨hw, hvw⟩, hchain⟩ := List.isChain_cons_cons.1 hchain
    have hw3 : 1 ≤ w ∧ w ≤ 3 := ⟨hw, by omega⟩
    have hcons : wideCells first hb ((b, w) :: L) = cell first hb b w ++ wideCells first hb L := rfl
    rw [hcons, mergeFrom_cell first b (hbound hw3).1.ne'] at hr
    split_ifs at hr
    · obtain rfl | hr := List.mem_cons.1 hr
      · have hsum := hbound (n := v + w) ⟨by omega, hvw⟩
        rwa [Nat.add_mul] at hsum
      · exact ih hw3 hchain hr
    · obtain rfl | hr := List.mem_cons.1 hr
      · exact hbound hv
      · obtain rfl | hr := List.mem_cons.1 hr
        · exact hbound hw3
        · exact ih hw3 hchain hr

/-! ## What the packed symbols tell (R112) -/

/-- The durations that the phases of a symbol list last, in order, without those that last nothing. -/
def phaseTimes (S : List Symbol) : List Nat := (S.flatMap fun v => [v.mark.toNat, v.space.toNat]).filter (0 < ·)

/-- The symbols give back the durations of the runs that were paired, when none is empty or cut to 32 bits. -/
theorem phaseTimes_pairRuns : ∀ {R : List Run}, (∀ r ∈ R, 0 < r.us ∧ r.us < 2 ^ 32) →
    phaseTimes (pairRuns R) = R.map Run.us
  | [], _ => rfl
  | [m], h => by
    obtain ⟨hm, hmlt⟩ := h m (by simp)
    simp [pairRuns, phaseTimes, -BitVec.toNat_ofNat, toNat_ofNat_of_lt hmlt, hm]
  | m :: s :: R, h => by
    obtain ⟨hm, hmlt⟩ := h m (by simp)
    obtain ⟨hs, hslt⟩ := h s (by simp)
    have hrest : phaseTimes (pairRuns R) = R.map Run.us := phaseTimes_pairRuns fun r hr => h r (by simp [hr])
    rw [phaseTimes] at hrest
    simp [pairRuns, phaseTimes, -BitVec.toNat_ofNat, toNat_ofNat_of_lt hmlt, toNat_ofNat_of_lt hslt, hm, hs, hrest]

/-- Symbols that start with the runs `H` and go on with merged cells determine the bits of the cells. -/
theorem bits_eq_of_pairRuns_eq (hfirst : Function.Injective first) (hhb : 1 ≤ hb) (h32 : 3 * hb < 2 ^ 32)
    {H : List Run} (hH : ∀ r ∈ H, 0 < r.us ∧ r.us < 2 ^ 32) {L L' : List (Bool × Nat)}
    (hwidth : L.map Prod.snd = L'.map Prod.snd) (hchain : List.IsChain MayFollow (1 :: L.map Prod.snd)) {x : Bool}
    (h : pairRuns (H ++ mergeFrom ⟨x, 1 * hb⟩ (wideCells first hb L)) =
      pairRuns (H ++ mergeFrom ⟨x, 1 * hb⟩ (wideCells first hb L'))) : L = L' := by
  have htimes {M : List (Bool × Nat)} (hM : List.IsChain MayFollow (1 :: M.map Prod.snd)) :
      phaseTimes (pairRuns (H ++ mergeFrom ⟨x, 1 * hb⟩ (wideCells first hb M))) =
        H.map Run.us ++ (mergeFrom ⟨x, 1 * hb⟩ (wideCells first hb M)).map Run.us := by
    rw [phaseTimes_pairRuns fun r hr => (List.mem_append.1 hr).elim (hH r)
      (us_bounds_of_mem_mergeFrom hhb h32 (by decide) hM), List.map_append]
  have heq := congrArg phaseTimes h
  rw [htimes hchain, htimes (hwidth ▸ hchain)] at heq
  exact bits_eq_of_mergeFrom_us_eq hfirst hhb hwidth hchain (List.append_cancel_left heq)

end

/-! ## RC5 and extended RC5 (R113, R114) -/

theorem rc5First_injective : Function.Injective rc5First := Bool.not_injective

/-- The first bit is 1: its space is dropped, its mark is the first run of the frame. -/
theorem pack_rc5_cells {hb : Nat} (hhb : 1 ≤ hb) (L : List Bool) :
    pack (cells rc5First hb (true :: L)) =
      pairRuns (mergeFrom ⟨true, 1 * hb⟩ (wideCells rc5First hb (ordinary L))) := by
  have hus : 1 * hb ≠ 0 := by omega
  have hcells : cells rc5First hb (true :: L) =
      ⟨false, 1 * hb⟩ :: ⟨true, 1 * hb⟩ :: wideCells rc5First hb (ordinary L) := by
    rw [cells_eq_wideCells]
    rfl
  rw [pack, hcells, merge_cons hus, mergeFrom_cons_of_ne hus (by simp)]
  rfl

theorem rc5_bits_eq_of_pack_eq {hb : Nat} (hhb : 1 ≤ hb) (h32 : 3 * hb < 2 ^ 32) {L L' : List Bool}
    (hlen : L.length = L'.length)
    (h : pack (cells rc5First hb (true :: L)) = pack (cells rc5First hb (true :: L'))) : L = L' := by
  rw [pack_rc5_cells hhb, pack_rc5_cells hhb] at h
  refine ordinary_injective (bits_eq_of_pairRuns_eq (H := []) rc5First_injective hhb h32 nofun ?_
    (mayFollow_ordinary L) h)
  rw [map_snd_ordinary, map_snd_ordinary, hlen]

/-- Address and command of a Manchester frame stand most significant bit first. -/
theorem operands_eq_of_bitsMsb_eq {m n a c a' c' : Nat} (ha : a < 2 ^ m) (ha' : a' < 2 ^ m) (hc : c < 2 ^ n)
    (hc' : c' < 2 ^ n) (h : bitsMsb a m ++ bitsMsb c n = bitsMsb a' m ++ bitsMsb c' n) : a = a' ∧ c = c' := by
  obtain ⟨haddr, hcmd⟩ := bitsMsb_append_inj ha ha' h
  exact ⟨haddr, eq_of_bitsMsb_eq hc hc' hcmd⟩

/-- A command of 7 bits is its field bit and its low six bits (R114). -/
theorem eq_of_field_bit_eq {c c' : Nat} (hc : c < 2 ^ 7) (hc' : c' < 2 ^ 7) (hbit : c.testBit 6 = c'.testBit 6)
    (hlow : mask 6 c = mask 6 c') : c = c' := by
  rw [Nat.testBit_eq_decide_div_mod_eq, Nat.testBit_eq_decide_div_mod_eq, decide_eq_decide] at hbit
  simp only [mask] at hlow
  omega

/-! ## RC6 (R115) -/

/-- The bits of an RC6 frame after the start bit, with their widths: the mode bits, the toggle, address and command. -/
def rc6Tail (a c : Nat) (t : Bool) : List (Bool × Nat) :=
  [(false, 1), (false, 1), (false, 1), (t, 2)] ++ ordinary (bitsMsb a 8 ++ bitsMsb c 8)

theorem map_snd_rc6Tail (a c : Nat) (t : Bool) :
    (rc6Tail a c t).map Prod.snd = [1, 1, 1, 2] ++ List.replicate 16 1 := by
  simp [rc6Tail, map_snd_ordinary]

theorem rc6Runs_eq (ts : TimingSpec) (a c : Nat) (t : Bool) :
    rc6Runs ts a c t = ⟨true, ts.headerMarkUs.toNat⟩ :: ⟨false, ts.headerSpaceUs.toNat⟩ ::
      ⟨true, 1 * halfBit ts⟩ :: ⟨false, 1 * halfBit ts⟩ :: wideCells rc6First (halfBit ts) (rc6Tail a c t) := by
  simp [rc6Runs, rc6Tail, cells, wideCells, ordinary, cell, rc6First, List.flatMap_map]

/-- The header and the mark of the start bit stand before the merged cells. -/
theorem frameRc6_eq {ts : TimingSpec} (hlegal : TimingLegal .rc6 ts) (hhb : 1 ≤ halfBit ts) (a c : Nat) (t : Bool) :
    frameRc6 ts a c t =
      pairRuns ([⟨true, ts.headerMarkUs.toNat⟩, ⟨false, ts.headerSpaceUs.toNat⟩, ⟨true, 1 * halfBit ts⟩] ++
        mergeFrom ⟨false, 1 * halfBit ts⟩ (wideCells rc6First (halfBit ts) (rc6Tail a c t))) := by
  have hmark : ts.headerMarkUs.toNat ≠ 0 := (Nat.zero_lt_of_lt (hlegal.headerMark rfl)).ne'
  have hspace : ts.headerSpaceUs.toNat ≠ 0 := (Nat.zero_lt_of_lt (hlegal.headerSpace rfl)).ne'
  have hhalf : 1 * halfBit ts ≠ 0 := by omega
  rw [frameRc6, pack, rc6Runs_eq, merge_cons hmark, mergeFrom_cons_of_ne hspace (by simp),
    mergeFrom_cons_of_ne hhalf (by simp), mergeFrom_cons_of_ne hhalf (by simp)]
  rfl

theorem rc6Tail_eq_of_frameRc6_eq {ts : TimingSpec} (hlegal : TimingLegal .rc6 ts) (hhb : 1 ≤ halfBit ts)
    {a c a' c' : Nat} {t t' : Bool} (h : frameRc6 ts a c t = frameRc6 ts a' c' t') :
    rc6Tail a c t = rc6Tail a' c' t' := by
  have h32 : 3 * halfBit ts < 2 ^ 32 := hlegal.halfBit rfl
  have hhalf : 0 < 1 * halfBit ts ∧ 1 * halfBit ts < 2 ^ 32 := by omega
  rw [frameRc6_eq hlegal hhb, frameRc6_eq hlegal hhb] at h
  refine bits_eq_of_pairRuns_eq Function.injective_id hhb h32 (fun r hr => ?_) ?_ ?_ h
  · simp only [List.mem_cons, List.not_mem_nil, or_false] at hr
    obtain rfl | rfl | rfl := hr
    · exact ⟨Nat.zero_lt_of_lt (hlegal.headerMark rfl), ts.headerMarkUs.isLt⟩
    · exact ⟨Nat.zero_lt_of_lt (hlegal.headerSpace rfl), ts.headerSpaceUs.isLt⟩
    · exact hhalf
  · rw [map_snd_rc6Tail, map_snd_rc6Tail]
  · rw [map_snd_rc6Tail]
    decide

/-- Settles O32: the frame determines the bits after the start bit, and the bits the operands and the toggle bit. -/
theorem manchesterFramesDetermineTheirOperands : Obligations.ManchesterFramesDetermineTheirOperands := by
  refine fun ts a c a' c' t t' hhb h32 => ⟨fun ha ha' hc hc' h => ?_, fun ha ha' hc hc' h => ?_,
    fun hlegal ha ha' hc hc' h => ?_⟩
  · have hbits : true :: t :: (bitsMsb a 5 ++ bitsMsb c 6) = true :: t' :: (bitsMsb a' 5 ++ bitsMsb c' 6) :=
      rc5_bits_eq_of_pack_eq hhb h32 (by simp) h
    simp only [List.cons.injEq, true_and] at hbits
    obtain ⟨ht, hbits⟩ := hbits
    obtain ⟨haddr, hcmd⟩ := operands_eq_of_bitsMsb_eq ha ha' hc hc' hbits
    exact ⟨haddr, hcmd, ht⟩
  · have hbits : (!c.testBit 6) :: t :: (bitsMsb a 5 ++ bitsMsb (mask 6 c) 6) =
        (!c'.testBit 6) :: t' :: (bitsMsb a' 5 ++ bitsMsb (mask 6 c') 6) :=
      rc5_bits_eq_of_pack_eq hhb h32 (by simp) h
    simp only [List.cons.injEq] at hbits
    obtain ⟨hfield, ht, hbits⟩ := hbits
    have hmask (v : Nat) : mask 6 v < 2 ^ 6 := Nat.mod_lt v (by decide)
    obtain ⟨haddr, hlow⟩ := operands_eq_of_bitsMsb_eq ha ha' (hmask c) (hmask c') hbits
    exact ⟨haddr, eq_of_field_bit_eq hc hc' (Bool.not_inj hfield) hlow, ht⟩
  · have htail := rc6Tail_eq_of_frameRc6_eq hlegal hhb h
    simp only [rc6Tail, List.cons_append, List.cons.injEq, Prod.mk.injEq, and_true, true_and] at htail
    obtain ⟨ht, hbits⟩ := htail
    obtain ⟨haddr, hcmd⟩ := operands_eq_of_bitsMsb_eq ha ha' hc hc' (ordinary_injective hbits)
    exact ⟨haddr, hcmd, ht⟩

end Sys2Proof.Machine
end

section
/-! PROOFS. What packing keeps of a run list (42_manchester R109, R112): merging makes the levels alternate and keeps the
total duration and the normal form of the waveform; pairing alternating runs from a mark on only writes them as
symbols; the leading space is all that is dropped. -/

namespace Sys2Proof.Machine

/-! ## Merging (R112): a run of no length, the levels, the total duration -/

theorem merge_cons_of_us_eq_zero {r : Run} (hr : r.us = 0) (R : List Run) : merge (r :: R) = merge R := by
  have hskip : mergeRun [] r = [] := if_pos hr
  rw [merge, List.foldl_cons, hskip, merge]

/-- The levels of the runs alternate, the first one, if any, being `x`. -/
def Alternates (x : Bool) : List Run → Prop
  | [] => True
  | r :: R => r.level = x ∧ Alternates (!x) R

theorem alternates_mergeFrom (l : Run) (R : List Run) : Alternates l.level (mergeFrom l R) := by
  induction R generalizing l with
  | nil => exact ⟨rfl, trivial⟩
  | cons r R ih =>
    rw [mergeFrom]
    split_ifs with hus hlevel
    · exact ih l
    · exact ih ⟨l.level, l.us + r.us⟩
    · have hnot : (!l.level) = r.level := Bool.not_eq.2 hlevel
      exact ⟨rfl, hnot ▸ ih r⟩

/-- Merging keeps the total duration. -/
theorem sum_us_mergeFrom (l : Run) (R : List Run) :
    ((mergeFrom l R).map Run.us).sum = l.us + (R.map Run.us).sum := by
  induction R generalizing l with
  | nil => simp [mergeFrom]
  | cons r R ih =>
    rw [mergeFrom]
    split_ifs with hus hlevel
    · simp [ih, hus]
    · simp [ih, Nat.add_assoc]
    · simp [ih]

theorem sum_us_merge (R : List Run) : ((merge R).map Run.us).sum = (R.map Run.us).sum := by
  induction R with
  | nil => rfl
  | cons r R ih =>
    by_cases hus : r.us = 0
    · simp [merge_cons_of_us_eq_zero hus, ih, hus]
    · simp [merge_cons hus, sum_us_mergeFrom]

/-! ## The leading space (R112) -/

theorem fromFirstMark_cons_of_us_eq_zero {r : Run} (hr : r.us = 0) (R : List Run) :
    fromFirstMark (r :: R) = fromFirstMark R := by simp [fromFirstMark, hr]

theorem fromFirstMark_cons_of_space {r : Run} (hr : r.level = false) (R : List Run) :
    fromFirstMark (r :: R) = fromFirstMark R := by simp [fromFirstMark, hr]

theorem fromFirstMark_cons_of_mark {r : Run} (hus : r.us ≠ 0) (hr : r.level = true) (R : List Run) :
    fromFirstMark (r :: R) = r :: R := by simp [fromFirstMark, hus, hr]

theorem dropLeadingSpace_of_alternates {M : List Run} (hM : Alternates true M) : dropLeadingSpace M = M := by
  cases M with
  | nil => rfl
  | cons r R => exact if_pos hM.1

/-- The merged leading space ends where the first mark begins. -/
theorem dropLeadingSpace_mergeFrom_space {l : Run} (hl : l.level = false) (R : List Run) :
    dropLeadingSpace (mergeFrom l R) = merge (fromFirstMark R) := by
  induction R generalizing l with
  | nil => simp [mergeFrom, dropLeadingSpace, hl, fromFirstMark, merge]
  | cons r R ih =>
    rw [mergeFrom]
    split_ifs with hus hlevel
    · rw [ih hl, fromFirstMark_cons_of_us_eq_zero hus]
    · rw [ih (l := ⟨l.level, l.us + r.us⟩) hl, fromFirstMark_cons_of_space (hlevel ▸ hl)]
    · have hmark : r.level = true := by simpa [hl] using hlevel
      rw [fromFirstMark_cons_of_mark hus hmark, merge_cons hus]
      exact if_neg (by simp [hl])

theorem dropLeadingSpace_merge (R : List Run) : dropLeadingSpace (merge R) = merge (fromFirstMark R) := by
  induction R with
  | nil => rfl
  | cons r R ih =>
    by_cases hus : r.us = 0
    · rw [merge_cons_of_us_eq_zero hus, ih, fromFirstMark_cons_of_us_eq_zero hus]
    · rw [merge_cons hus]
      cases hr : r.level with
      | false => rw [dropLeadingSpace_mergeFrom_space hr, fromFirstMark_cons_of_space hr]
      | true =>
        rw [fromFirstMark_cons_of_mark hus hr, merge_cons hus]
        exact dropLeadingSpace_of_alternates (hr ▸ alternates_mergeFrom r R)

/-- Packing pairs the merged runs from the first mark on. -/
theorem pack_eq_pairRuns (R : List Run) : pack R = pairRuns (merge (fromFirstMark R)) := by
  rw [pack, dropLeadingSpace_merge]

theorem alternates_merge_fromFirstMark (R : List Run) : Alternates true (merge (fromFirstMark R)) := by
  induction R with
  | nil => trivial
  | cons r R ih =>
    by_cases hus : r.us = 0
    · rwa [fromFirstMark_cons_of_us_eq_zero hus]
    · cases hr : r.level with
      | false => rwa [fromFirstMark_cons_of_space hr]
      | true =>
        rw [fromFirstMark_cons_of_mark hus hr, merge_cons hus]
        exact hr ▸ alternates_mergeFrom r R

/-! ## The normal form of a waveform (10_state R30) -/

/-- The normal form of a tail is all that counts of it. -/
theorem norm_append_congr (U : List WaveItem) {V W : List WaveItem} (h : norm V = norm W) :
    norm (U ++ V) = norm (U ++ W) := by
  simp only [norm, List.foldr_append] at h ⊢
  rw [h]

theorem normCons_on_on (f : Word) (d : Duty) (m n : Nat) (W : List WaveItem) :
    normCons (.on f d m) (normCons (.on f d n) W) = normCons (.on f d (m + n)) W := by
  cases W with
  | nil => simp [normCons]
  | cons x W =>
    cases x with
    | on f' d' k =>
      by_cases hsame : f = f' ∧ d = d'
      · simp [normCons, hsame, Nat.add_assoc]
      · simp [normCons, hsame]
    | off k => simp [normCons]
    | idle => simp [normCons]

theorem normCons_off_off (m n : Nat) (W : List WaveItem) :
    normCons (.off m) (normCons (.off n) W) = normCons (.off (m + n)) W := by
  cases W with
  | nil => rfl
  | cons x W => cases x <;> simp [normCons, Nat.add_assoc]

section
variable (f : Word) (d : Duty)

theorem runItems_cons_of_us_eq_zero {r : Run} (hr : r.us = 0) (R : List Run) :
    runItems f d (r :: R) = runItems f d R := by simp [runItems, hr]

theorem norm_runItems_cons_congr (r : Run) {R R' : List Run} (h : norm (runItems f d R) = norm (runItems f d R')) :
    norm (runItems f d (r :: R)) = norm (runItems f d (r :: R')) :=
  norm_append_congr _ h

/-- Two runs of one level are, in normal form, one run. -/
theorem norm_runItems_join (l r : Run) (hlevel : l.level = r.level) (R : List Run) :
    norm (runItems f d (⟨l.level, l.us + r.us⟩ :: R)) = norm (runItems f d (l :: r :: R)) := by
  by_cases hl : l.us = 0
  · simp [runItems, hl, hlevel]
  by_cases hr : r.us = 0
  · simp [runItems, hr]
  cases hx : l.level with
  | false => simp [runItems, norm, hl, hr, ← hlevel, hx, normCons_off_off]
  | true => simp [runItems, norm, hl, hr, ← hlevel, hx, normCons_on_on]

theorem norm_runItems_mergeFrom (l : Run) (R : List Run) :
    norm (runItems f d (mergeFrom l R)) = norm (runItems f d (l :: R)) := by
  induction R generalizing l with
  | nil => rfl
  | cons r R ih =>
    rw [mergeFrom]
    split_ifs with hus hlevel
    · rw [ih]
      exact norm_runItems_cons_congr f d l (by rw [runItems_cons_of_us_eq_zero f d hus])
    · rw [ih, norm_runItems_join f d l r hlevel]
    · exact norm_runItems_cons_congr f d l (ih r)

/-- Merging keeps the normal form of the waveform. -/
theorem norm_runItems_merge (R : List Run) : norm (runItems f d (merge R)) = norm (runItems f d R) := by
  induction R with
  | nil => rfl
  | cons r R ih =>
    by_cases hus : r.us = 0
    · rw [merge_cons_of_us_eq_zero hus, ih, runItems_cons_of_us_eq_zero f d hus]
    · rw [merge_cons hus, norm_runItems_mergeFrom]

/-! ## Pairing (R112) -/

theorem ofNat_eq_zero_iff {n : Nat} (hn : n < 2 ^ 32) : BitVec.ofNat 32 n = 0 ↔ n = 0 := by
  rw [← BitVec.toNat_inj, toNat_ofNat_of_lt hn]
  rfl

theorem markItems_ofNat {n : Nat} (hn : n < 2 ^ 32) :
    markItems f d (BitVec.ofNat 32 n) = if n = 0 then [] else [.on f d n] := by
  simp only [markItems, ofNat_eq_zero_iff hn, toNat_ofNat_of_lt hn]

theorem spaceItems_ofNat {n : Nat} (hn : n < 2 ^ 32) :
    spaceItems (BitVec.ofNat 32 n) = if n = 0 then [] else [.off n] := by
  simp only [spaceItems, ofNat_eq_zero_iff hn, toNat_ofNat_of_lt hn]

/-- Alternating runs from a mark on, none cut to 32 bits, have the waveform of their symbols. -/
theorem waveOf_pairRuns : ∀ {R : List Run}, Alternates true R → (∀ r ∈ R, r.us < 2 ^ 32) →
    waveOf f d (pairRuns R) = runItems f d R
  | [], _, _ => rfl
  | [m], ⟨hm, _⟩, h32 => by
    simp [pairRuns, waveOf, runItems, markItems_ofNat f d (h32 m (by simp)), spaceItems, hm]
  | m :: s :: R, ⟨hm, hs, halt⟩, h32 => by
    simp [pairRuns, waveOf, runItems, markItems_ofNat f d (h32 m (by simp)), spaceItems_ofNat (h32 s (by simp)), hm,
      hs, waveOf_pairRuns halt fun r hr => h32 r (by simp [hr])]

end

theorem sum_us_fromFirstMark_le (R : List Run) : ((fromFirstMark R).map Run.us).sum ≤ (R.map Run.us).sum :=
  ((List.dropWhile_sublist _).map Run.us).sum_le_sum fun _ _ => Nat.zero_le _

/-- No run that is paired is cut to 32 bits when all the runs together are not. -/
theorem us_lt_of_mem_merge_fromFirstMark {R : List Run} (hR : (R.map Run.us).sum < 2 ^ 32) {r : Run}
    (hr : r ∈ merge (fromFirstMark R)) : r.us < 2 ^ 32 := by
  calc r.us ≤ ((merge (fromFirstMark R)).map Run.us).sum := List.le_sum_of_mem (List.mem_map_of_mem hr)
    _ = ((fromFirstMark R).map Run.us).sum := sum_us_merge _
    _ ≤ (R.map Run.us).sum := sum_us_fromFirstMark_le R
    _ < 2 ^ 32 := hR

/-- Settles O30: pairing keeps the waveform of the merged runs, merging its normal form. -/
theorem packingKeepsTheWaveform : Obligations.PackingKeepsTheWaveform := fun R f d hR =>
  calc norm (waveOf f d (pack R))
      = norm (waveOf f d (pairRuns (merge (fromFirstMark R)))) := by rw [pack_eq_pairRuns]
    _ = norm (runItems f d (merge (fromFirstMark R))) := by
        rw [waveOf_pairRuns f d (alternates_merge_fromFirstMark R) fun _ => us_lt_of_mem_merge_fromFirstMark hR]
    _ = norm (runItems f d (fromFirstMark R)) := norm_runItems_merge f d _

end Sys2Proof.Machine
end

section
/-! PROOFS. Lengths and durations of Manchester frames, and their toggle bit (42_manchester R113 to R117). A packed frame
has one symbol for each mark; every cell holds one mark, and two marks become one exactly where a bit that ends with a
mark is directly followed by a bit that starts with one. -/

namespace Sys2Proof.Machine

/-! ## Symbols and marks (R112) -/

/-- Alternating runs from a mark on give a symbol for each mark. -/
theorem pairRuns_length_eq_marks : ∀ {R : List Run}, Alternates true R → (pairRuns R).length = R.countP Run.level
  | [], _ => rfl
  | [m], ⟨hm, _⟩ => by simp [pairRuns, hm]
  | m :: s :: R, ⟨hm, hs, halt⟩ => by
    have hrest : (pairRuns R).length = R.countP Run.level := pairRuns_length_eq_marks halt
    have hspace : s.level = false := hs
    simp [pairRuns, hm, hspace, hrest]

/-- Runs that are not cut to 32 bits last as long as their symbols. -/
theorem dur_pairRuns : ∀ {R : List Run}, (∀ r ∈ R, r.us < 2 ^ 32) → dur (pairRuns R) = (R.map Run.us).sum
  | [], _ => rfl
  | [m], h32 => by
    simp [pairRuns, dur, -BitVec.toNat_ofNat, toNat_ofNat_of_lt (h32 m (by simp))]
  | m :: s :: R, h32 => by
    have hrest : dur (pairRuns R) = (R.map Run.us).sum := dur_pairRuns fun r hr => h32 r (by simp [hr])
    rw [dur] at hrest
    simp [pairRuns, dur, -BitVec.toNat_ofNat, toNat_ofNat_of_lt (h32 m (by simp)),
      toNat_ofNat_of_lt (h32 s (by simp)), hrest, Nat.add_assoc]

/-! ## Adjacent bits -/

theorem adjacent_cons_of_ne {x y a : Bool} (ha : a ≠ x) : ∀ L : List Bool, adjacent x y (a :: L) = adjacent x y L
  | [] => rfl
  | _ :: _ => by simp [adjacent, ha]

/-- Places where an `x` is followed by another bit `y` do not overlap. -/
theorem two_mul_adjacent_le {x y : Bool} (hxy : y ≠ x) : ∀ L : List Bool, 2 * adjacent x y L ≤ L.length
  | [] => Nat.zero_le _
  | [_] => Nat.zero_le _
  | a :: b :: L => by
    by_cases hplace : a = x ∧ b = y
    · have hrest := two_mul_adjacent_le hxy L
      have hnext : adjacent x y (b :: L) = adjacent x y L := adjacent_cons_of_ne (hplace.2 ▸ hxy) L
      simp only [adjacent, if_pos hplace, hnext, List.length_cons]
      omega
    · have hrest := two_mul_adjacent_le hxy (b :: L)
      simp only [adjacent, if_neg hplace, List.length_cons] at hrest ⊢
      omega

/-! ## The marks and the duration of merged cells -/

section
variable {first : Bool → Bool} {hb : Nat}

theorem wideCells_cons (q : Bool × Nat) (L : List (Bool × Nat)) :
    wideCells first hb (q :: L) = cell first hb q.1 q.2 ++ wideCells first hb L := rfl

/-- `y` is the bit that starts with a mark. Every cell adds a mark, but where the bit `p` before it ends with a mark (it
is not `y`) and the cell starts with one: a bit equal to the one before it adds two runs, another one lengthens the
last run. -/
theorem marks_mergeFrom_wideCells {y : Bool} (hfirst : ∀ b, first b = (b == y)) (hhb : 1 ≤ hb) {L : List (Bool × Nat)}
    {p : Bool} {v n : Nat} (hchain : List.IsChain MayFollow (v :: L.map Prod.snd)) :
    (mergeFrom ⟨!first p, n⟩ (wideCells first hb L)).countP Run.level + adjacent (!y) y (p :: L.map Prod.fst) =
      L.length + if first p then 0 else 1 := by
  induction L generalizing p v n with
  | nil => cases first p <;> simp [wideCells, mergeFrom, adjacent]
  | cons q L ih =>
    obtain ⟨b, w⟩ := q
    obtain ⟨⟨hw, _⟩, hchain⟩ := List.isChain_cons_cons.1 hchain
    have hus : w * hb ≠ 0 := (Nat.mul_pos hw hhb).ne'
    have hrest := ih (p := b) (n := w * hb) hchain
    rw [wideCells_cons, mergeFrom_cell first b hus, List.map_cons, adjacent]
    obtain rfl | rfl := Bool.eq_or_eq_not b p
    · have hnew : (!first b) ≠ first b := by simp
      have hplace : ¬(b = !y ∧ b = y) := by rintro ⟨rfl, hy⟩; simp at hy
      rw [if_neg hnew, if_neg hplace]
      cases hlevel : first b <;> simp [hlevel] at hrest ⊢ <;> omega
    · have hgrow : first (!p) = !first p := by simp only [hfirst]; cases p <;> cases y <;> rfl
      have hplace : (p = !y ∧ (!p) = y) ↔ first p = false := by rw [hfirst]; cases p <;> cases y <;> decide
      rw [hgrow] at hrest ⊢
      rw [if_pos rfl]
      simp only [hplace]
      cases hlevel : first p <;> simp [hlevel] at hrest ⊢ <;> omega

theorem sum_us_wideCells (L : List (Bool × Nat)) :
    ((wideCells first hb L).map Run.us).sum = 2 * (L.map Prod.snd).sum * hb := by
  induction L with
  | nil => simp [wideCells]
  | cons q L ih =>
    simp only [wideCells_cons, List.map_append, List.sum_append, ih, cell, List.map_cons, List.map_nil, List.sum_cons,
      List.sum_nil]
    ring

end

/-! ## RC5 and extended RC5 (R113, R114, R116) -/

theorem pack_rc5_length {hb : Nat} (hhb : 1 ≤ hb) (L : List Bool) :
    (pack (cells rc5First hb (true :: L))).length + adjacent true false (true :: L) = L.length + 1 := by
  have hmarks := marks_mergeFrom_wideCells (first := rc5First) (y := false) (p := true) (n := 1 * hb) (by decide) hhb
    (mayFollow_ordinary L)
  have hbits : (ordinary L).map Prod.fst = L := by simp [ordinary, Function.comp_def]
  rw [hbits] at hmarks
  rw [pack_rc5_cells hhb, pairRuns_length_eq_marks (alternates_mergeFrom ⟨true, 1 * hb⟩ _)]
  simpa [rc5First, ordinary] using hmarks

/-- Every bit lasts two half-bit times, but the space that starts the first is dropped. -/
theorem dur_pack_rc5 {hb : Nat} (hhb : 1 ≤ hb) (h32 : 3 * hb < 2 ^ 32) (L : List Bool) :
    dur (pack (cells rc5First hb (true :: L))) = (2 * L.length + 1) * hb := by
  rw [pack_rc5_cells hhb, dur_pairRuns fun r hr =>
    (us_bounds_of_mem_mergeFrom hhb h32 (by decide) (mayFollow_ordinary L) hr).2, sum_us_mergeFrom, sum_us_wideCells,
    map_snd_ordinary]
  simp only [List.sum_replicate, smul_eq_mul]
  ring

/-- A packed RC5 frame, by its fourteen bits. -/
theorem pack_rc5_of_fourteen_bits {hb : Nat} (hhb : 1 ≤ hb) (h32 : 3 * hb < 2 ^ 32) {L : List Bool}
    (hL : L.length = 13) :
    (pack (cells rc5First hb (true :: L))).length + adjacent true false (true :: L) = 14 ∧
    7 ≤ (pack (cells rc5First hb (true :: L))).length ∧ dur (pack (cells rc5First hb (true :: L))) = 27 * hb := by
  have hlength := pack_rc5_length hhb L
  have hplaces := two_mul_adjacent_le (x := true) (y := false) (by decide) (true :: L)
  rw [List.length_cons] at hplaces
  refine ⟨by omega, by omega, ?_⟩
  rw [dur_pack_rc5 hhb h32, hL]

/-- A command of six bits has the second start bit of plain RC5 (R114). -/
theorem rc5xBits_of_lt {c : Nat} (hc : c < 2 ^ 6) (a : Nat) (t : Bool) : rc5xBits a c t = rc5Bits a c t := by
  have hmask : mask 6 c = c := Nat.mod_eq_of_lt hc
  rw [rc5xBits, rc5Bits, Nat.testBit_lt_two_pow hc, hmask, Bool.not_false]

/-- Settles O27, for any fourteen bits that start with a 1. -/
theorem rc5FrameLengthAndDuration : Obligations.Rc5FrameLengthAndDuration := by
  intro ts a c t hhb h32
  obtain ⟨hlen, hmin, hdur⟩ := pack_rc5_of_fourteen_bits hhb h32
    (L := [true, t] ++ bitsMsb a 5 ++ bitsMsb c 6) (by simp)
  obtain ⟨hlenx, hminx, hdurx⟩ := pack_rc5_of_fourteen_bits hhb h32
    (L := [!c.testBit 6, t] ++ bitsMsb a 5 ++ bitsMsb (mask 6 c) 6) (by simp)
  refine ⟨hlen, hlenx, hmin, hminx, hdur, hdurx, fun hc => ?_⟩
  rw [frameRc5x, frameRc5, rc5xBits_of_lt hc]

/-! ## RC6 (R115, R116) -/

theorem mayFollow_rc6Tail (a c : Nat) (t : Bool) : List.IsChain MayFollow (1 :: (rc6Tail a c t).map Prod.snd) := by
  rw [map_snd_rc6Tail]
  decide

theorem cons_map_fst_rc6Tail (a c : Nat) (t : Bool) :
    true :: (rc6Tail a c t).map Prod.fst = [true, false, false, false, t] ++ bitsMsb a 8 ++ bitsMsb c 8 := by
  simp [rc6Tail, ordinary, Function.comp_def]

theorem frameRc6_length {ts : TimingSpec} (hlegal : TimingLegal .rc6 ts) (hhb : 1 ≤ halfBit ts) (a c : Nat) (t : Bool) :
    (frameRc6 ts a c t).length +
      adjacent false true ([true, false, false, false, t] ++ bitsMsb a 8 ++ bitsMsb c 8) = 22 := by
  have hmarks := marks_mergeFrom_wideCells (first := rc6First) (y := true) (p := true) (n := 1 * halfBit ts)
    (by decide) hhb (mayFollow_rc6Tail a c t)
  have htail : (rc6Tail a c t).length = 20 := by simp [rc6Tail, ordinary]
  rw [cons_map_fst_rc6Tail, htail] at hmarks
  have halt : Alternates true ([⟨true, ts.headerMarkUs.toNat⟩, ⟨false, ts.headerSpaceUs.toNat⟩,
      ⟨true, 1 * halfBit ts⟩] ++
      mergeFrom ⟨false, 1 * halfBit ts⟩ (wideCells rc6First (halfBit ts) (rc6Tail a c t))) :=
    ⟨rfl, rfl, rfl, alternates_mergeFrom ⟨false, 1 * halfBit ts⟩ _⟩
  rw [frameRc6_eq hlegal hhb, pairRuns_length_eq_marks halt, List.countP_append]
  simp [rc6First] at hmarks ⊢
  omega

theorem dur_frameRc6 {ts : TimingSpec} (hlegal : TimingLegal .rc6 ts) (hhb : 1 ≤ halfBit ts) (a c : Nat) (t : Bool) :
    dur (frameRc6 ts a c t) = ts.headerMarkUs.toNat + ts.headerSpaceUs.toNat + 44 * halfBit ts := by
  have h32 : 3 * halfBit ts < 2 ^ 32 := hlegal.halfBit rfl
  have hhalf : 1 * halfBit ts < 2 ^ 32 := by omega
  have hbound : ∀ r ∈ [⟨true, ts.headerMarkUs.toNat⟩, ⟨false, ts.headerSpaceUs.toNat⟩, ⟨true, 1 * halfBit ts⟩] ++
      mergeFrom ⟨false, 1 * halfBit ts⟩ (wideCells rc6First (halfBit ts) (rc6Tail a c t)), r.us < 2 ^ 32 := by
    intro r hr
    obtain hr | hr := List.mem_append.1 hr
    · simp only [List.mem_cons, List.not_mem_nil, or_false] at hr
      obtain rfl | rfl | rfl := hr
      · exact ts.headerMarkUs.isLt
      · exact ts.headerSpaceUs.isLt
      · exact hhalf
    · exact (us_bounds_of_mem_mergeFrom hhb h32 (by decide) (mayFollow_rc6Tail a c t) hr).2
  rw [frameRc6_eq hlegal hhb, dur_pairRuns hbound, List.map_append, List.sum_append, sum_us_mergeFrom,
    sum_us_wideCells, map_snd_rc6Tail]
  simp
  omega

/-- Settles O28: the places where a 0 is followed by a 1 lie among the last eighteen bits. -/
theorem rc6FrameLengthAndDuration : Obligations.Rc6FrameLengthAndDuration := by
  intro ts a c t hlegal hhb
  have hlength := frameRc6_length hlegal hhb a c t
  have hplaces : 2 * adjacent false true ([true, false, false, false, t] ++ bitsMsb a 8 ++ bitsMsb c 8) ≤ 18 := by
    have hlast := two_mul_adjacent_le (x := false) (y := true) (by decide) (false :: t :: (bitsMsb a 8 ++ bitsMsb c 8))
    simpa [adjacent] using hlast
  exact ⟨hlength, by omega, dur_frameRc6 hlegal hhb a c t⟩

/-! ## The toggle bit (R117) -/

/-- The cell of the complement is the cell with its two runs exchanged, when the first level tells the bit. -/
theorem cell_not {first : Bool → Bool} (hfirst : ∀ b, first (!b) = !first b) (hb : Nat) (b : Bool) (w : Nat) :
    cell first hb (!b) w = (cell first hb b w).reverse := by
  simp [cell, hfirst]

theorem map_us_cell (first : Bool → Bool) (hb : Nat) (b : Bool) (w : Nat) :
    (cell first hb b w).map Run.us = [w * hb, w * hb] := rfl

/-- The cell of a bit stands between the cells of the bits before and after it. -/
theorem cells_append_cons (first : Bool → Bool) (hb : Nat) (L M : List Bool) (b : Bool) :
    cells first hb (L ++ b :: M) = cells first hb L ++ cell first hb b 1 ++ cells first hb M := by
  simp [cells]

/-- Settles O29. -/
theorem toggleBitChangesOnlyItsCell : Obligations.ToggleBitChangesOnlyItsCell := by
  intro ts a c
  refine ⟨⟨_, _, ?_, fun t => cells_append_cons rc5First (halfBit ts) [true, true] (bitsMsb a 5 ++ bitsMsb c 6) t⟩,
    ⟨_, _, ?_, fun t =>
      cells_append_cons rc5First (halfBit ts) [true, !c.testBit 6] (bitsMsb a 5 ++ bitsMsb (mask 6 c) 6) t⟩,
    ⟨[⟨true, ts.headerMarkUs.toNat⟩, ⟨false, ts.headerSpaceUs.toNat⟩] ++
        cells rc6First (halfBit ts) [true, false, false, false],
      cells rc6First (halfBit ts) (bitsMsb a 8) ++ cells rc6First (halfBit ts) (bitsMsb c 8), rfl, fun t => ?_⟩,
    fun t w => ⟨?_, cell_not (by decide) (halfBit ts) t w, cell_not (by decide) (halfBit ts) t w⟩⟩
  · rfl
  · rfl
  · simp only [rc6Runs, List.append_assoc]
  · rw [map_us_cell, map_us_cell]

end Sys2Proof.Machine
end

section
/-! PROOFS. The operations of the Carrier Transmitter (43_carrier R119 to R130): the micro-operations, how long a
waveform lasts, INIT and TRANSMIT. -/

namespace Sys2Proof.Machine

/-! ## The micro-operations (R126 to R128) -/

theorem exec_cen (d : Duty) (s : State) : exec (.cen d) s = .next (cen d s) := rfl

theorem exec_cdis (s : State) : exec .cdis s = .next (cdis s) := rfl

theorem exec_dly (n : Word) (s : State) : exec (.dly n) s = .next (dly n s) := rfl

theorem pin_of_carrier_on {s : State} (h : s.carrier = true) : s.pin = .wave s.cfreq s.cduty := if_pos h

theorem pin_of_carrier_off {s : State} (h : s.carrier = false) : s.pin = .inactive := by simp [State.pin, h]

theorem cdis_of_carrier_off {s : State} (h : s.carrier = false) : cdis s = s := by rw [cdis, ← h]

theorem dly_zero (s : State) : dly 0 s = s := by simp [dly, dlyItems]

/-- Time that passes is recorded with the carrier as it is. -/
theorem dly_of_ne_zero {n : Word} (hn : n ≠ 0) (s : State) :
    dly n s =
      { s with wave := s.wave ++ [if s.carrier = true then .on s.cfreq s.cduty n.toNat else .off n.toNat] } := by
  rw [dly, dlyItems, if_neg hn]
  split <;> rfl

/-- Settles O37. -/
theorem cenEnablesTheCarrier : Obligations.CenEnablesTheCarrier :=
  fun d s => ⟨exec_cen d s, pin_of_carrier_on rfl⟩

/-- Settles O38. -/
theorem cdisDisablesTheCarrier : Obligations.CdisDisablesTheCarrier := by
  refine ⟨decodeMicro_cdisWord, fun s => ⟨exec_cdis s, pin_of_carrier_off rfl, fun hoff => ?_⟩⟩
  rw [exec_cdis, cdis_of_carrier_off hoff]

/-- Settles O39. -/
theorem dlyRecordsTheTimeThatPasses : Obligations.DlyRecordsTheTimeThatPasses := by
  refine ⟨decodeMicro_dlyWord, fun n s => ?_, fun d s t h => ?_⟩
  · rw [exec_dly]
    by_cases hn : n = 0
    · rw [hn, dly_zero, if_pos rfl]
    · rw [dly_of_ne_zero hn, if_neg hn]
  · obtain h | h := h
    · cases (exec_cen d s).symm.trans h
      exact cen_wave d s
    · cases (exec_cdis s).symm.trans h
      exact cdis_wave s

/-! ## How long a waveform lasts (R130) -/

theorem waveDur_markItems (f : Word) (d : Duty) (n : Word) : waveDur (markItems f d n) = n.toNat := by
  unfold markItems
  split <;> simp [waveDur, *]

theorem waveDur_spaceItems (n : Word) : waveDur (spaceItems n) = n.toNat := by
  unfold spaceItems
  split <;> simp [waveDur, *]

theorem dur_cons (v : Symbol) (S : List Symbol) : dur (v :: S) = v.mark.toNat + v.space.toNat + dur S := by
  simp [dur]

theorem waveDur_waveOf (f : Word) (d : Duty) (S : List Symbol) : waveDur (waveOf f d S) = dur S := by
  induction S with
  | nil => rfl
  | cons v S ih =>
    rw [waveOf, waveDur_append, waveDur_append, waveDur_markItems, waveDur_spaceItems, ih, dur_cons, Nat.add_assoc]

/-- Merging an item into the first one after it adds their durations (10_state R30). -/
theorem waveDur_normCons (x : WaveItem) (W : List WaveItem) : waveDur (normCons x W) = waveDur (x :: W) := by
  unfold normCons
  split
  · split <;> simp [waveDur, Nat.add_assoc]
  · simp [waveDur, Nat.add_assoc]
  · rfl
  · rfl

theorem waveDur_norm (W : List WaveItem) : waveDur (norm W) = waveDur W := by
  induction W with
  | nil => rfl
  | cons x W ih =>
    calc waveDur (norm (x :: W))
      _ = waveDur (x :: norm W) := waveDur_normCons x (norm W)
      _ = waveDur ([x] ++ norm W) := rfl
      _ = waveDur (x :: W) := by rw [waveDur_append, ih, ← waveDur_append, List.singleton_append]

/-- Settles O33. -/
theorem waveformLastsAsLongAsItsSymbols : Obligations.WaveformLastsAsLongAsItsSymbols :=
  fun S f d => ⟨waveDur_waveOf f d S, (waveDur_norm _).trans (waveDur_waveOf f d S)⟩

/-! ## INIT (R119) -/

theorem exec_init (s : State) : exec .init s = .next (initOp params s) := rfl

theorem initOp_of_illegalOperands (p : Params) {s : State} (h : s.opfreq = 0 ∨ 100 < s.opduty.toNat) :
    initOp p s = raise .invalidArgument s :=
  if_pos h

theorem initOp_of_legalOperands (p : Params) {s : State} (hfreq : s.opfreq ≠ 0) (hduty : s.opduty.toNat ≤ 100) :
    initOp p s = if p.hwOk s.draws = true then
        raise .ok { configure s.opfreq (s.opduty.setWidth 7) (attempt s) with
          carrier := false, init := true, fault := false }
      else raise .hwFailure { hwFailed (attempt s) with carrier := false } :=
  if_neg (not_or.2 ⟨hfreq, hduty.not_gt⟩)

/-- A word with operation code 1 is INIT, unless a reserved bit is set (30_encoding R64). -/
theorem runWord_init {w : BitVec 32} (hop : cwOp w = 1) (s : State) :
    runWord (.cw w) s = if cwReserved w ≠ 0 then .next (raise .invalidArgument s) else exec .init s := by
  split
  next hres => exact runWord_reservedBits_no_frame (by rw [hop]; decide) hres s
  next hres => exact runWord_of_decode_ok ((decode_init hop).trans (checkReserved_of_zero (not_not.1 hres) _)) s

/-- Settles O34: the operation by its checks, the word by its reserved bits. -/
theorem initConfiguresTheCarrier : Obligations.InitConfiguresTheCarrier := by
  refine ⟨fun s hfreq hduty => ?_, fun s hillegal => ?_, fun s w rest huport hport hop => ?_⟩
  · rw [exec_init, initOp_of_legalOperands params hfreq hduty]
    rfl
  · rw [exec_init, initOp_of_illegalOperands params hillegal]
    rfl
  · by_cases hphase : s.phase = .idle
    · rw [if_neg (not_not.2 hphase), step_of_command huport hphase hport, runWord_init hop]
      rfl
    · rw [if_pos hphase, step_of_overlappedAction huport hport hphase nofun]

/-! ## TRANSMIT (R120) -/

theorem transmitOp_of_illegalOperands {p : Params} {s : State}
    (h : s.opfreq = 0 ∨ 100 < s.opduty.toNat ∨ p.nsym < s.oplen.toNat) :
    transmitOp p s = .next (raise .invalidArgument s) :=
  if_pos h

theorem transmitOp_of_not_init {p : Params} {s : State}
    (hlegal : ¬ (s.opfreq = 0 ∨ 100 < s.opduty.toNat ∨ p.nsym < s.oplen.toNat)) (hinit : s.init = false) :
    transmitOp p s = .next (raise .notInitialized s) := by
  rw [transmitOp, if_neg hlegal, if_pos hinit]

/-- After the configuration step the symbols read are emitted. -/
theorem transmitOp_of_memRead_ok {p : Params} {s : State} (h : TransmitReady p s) (hhw : p.hwOk s.draws = true)
    {S : List Symbol} (hread : memRead s.sym 0 s.oplen.toNat = .ok S) :
    transmitOp p s = .next (raise .ok (emitted S (configure s.opfreq (s.opduty.setWidth 7) (attempt s)))) := by
  simp only [transmitOp, if_neg h.operandsInRange, h.init, hhw, hread, emit_eq_emitted, reduceCtorEq, if_false, if_true]

/-- The symbols that stand in `SYM` from entry 0 on are what a read of that range answers. -/
theorem memRead_of_symGet {m : SymMem} {n : Nat} {S : List Symbol} (hlen : S.length = n)
    (hsym : ∀ k, k < S.length → symGet m k = S[k]?) : memRead m 0 n = .ok S :=
  (memRead_eq_ok_iff m 0 n S).2 ⟨hlen, fun k hk => by rw [Nat.zero_add]; exact hsym k (hlen ▸ hk)⟩

/-- Settles O35: the checks of R120 in their order, then the peripheral's answer. -/
theorem transmitEmitsTheWaveform : Obligations.TransmitEmitsTheWaveform := by
  refine ⟨fun s S hfreq hduty hlen hinit hS hsym => ?_, fun s hillegal => ?_, fun s hfreq hduty hlen hinit => ?_⟩
  · have hready : TransmitReady params s := ⟨hfreq, hduty, hlen, hinit⟩
    rw [exec_transmit]
    cases hhw : params.hwOk s.draws with
    | true =>
      rw [transmitOp_of_memRead_ok hready hhw (memRead_of_symGet hS hsym), if_pos rfl]
      rfl
    | false =>
      rw [transmitOp_of_hwFails hready hhw, if_neg Bool.false_ne_true]
      rfl
  · rw [exec_transmit, transmitOp_of_illegalOperands hillegal]
    rfl
  · have hlegal : ¬ (s.opfreq = 0 ∨ 100 < s.opduty.toNat ∨ params.nsym < s.oplen.toNat) :=
      not_or.2 ⟨hfreq, not_or.2 ⟨hduty.not_gt, hlen.not_gt⟩⟩
    rw [exec_transmit, transmitOp_of_not_init hlegal hinit]
    rfl

end Sys2Proof.Machine
end

section
/-! PROOFS. The small steps of the sequencer (43_carrier R125) against its big step (R124). A phase that the sequencer
has issued ends, two steps on, in the state of the same phase in the big step; its next move then issues the phase
that follows, or ends the transmission. -/

namespace Sys2Proof.Machine

/-! ## Runs of the machine -/

/-- `n` steps of the machine lead from `s` to `t`. -/
def Reaches (n : Nat) (s t : State) : Prop := ∀ k, Sys2Proof.core.run (n + k) s = Sys2Proof.core.run k t

theorem Reaches.run {n : Nat} {s t : State} (h : Reaches n s t) : Sys2Proof.core.run n s = .next t := h 0

theorem Reaches.trans {m n : Nat} {s t u : State} (hst : Reaches m s t) (htu : Reaches n t u) :
    Reaches (m + n) s u := by
  intro k
  rw [Nat.add_assoc]
  exact (hst (n + k)).trans (htu k)

theorem reaches_of_step {s t : State} (h : step s = .next t) : Reaches 1 s t := by
  intro k
  have hstep : Sys2Proof.core.step s = .next t := h
  simp only [Nat.add_comm 1 k, Host.Core.run, hstep]

/-! ## One phase (R124, R125) -/

/-- A phase begins and its words are issued (R125). -/
def issuePhase (ph : Phase) (i : Nat) (n : Word) (us : List (BitVec 34)) (s : State) : State :=
  { startPhase ph i n s with uport := us }

/-- The move out of `IDLE` issues the mark of the first symbol (R125 row 2). -/
theorem startSeq_cons (v : Symbol) (rest : List Symbol) (s : State) :
    startSeq (v :: rest) s = issuePhase .mark 0 v.mark (markWords s.cduty v.mark)
      { s with len := BitVec.ofNat 32 (v :: rest).length } := rfl

/-- Nothing waits: no action of the host and no word of the sequencer. -/
structure Quiet (s : State) : Prop where
  port : s.port = []
  uport : s.uport = []

theorem step_of_cenWaiting {s : State} {d : Duty} {us : List (BitVec 34)} (huport : s.uport = cenWord d :: us) :
    step s = .next (cen d { s with uport := us }) := by
  rw [step_of_microWaiting huport, runWord_cenWord]
  simp [takeMicro]

theorem step_of_cdisWaiting {s : State} {us : List (BitVec 34)} (huport : s.uport = cdisWord :: us) :
    step s = .next (cdis { s with uport := us }) := by
  rw [step_of_microWaiting huport, runWord_cdisWord]
  simp [takeMicro]

theorem step_of_dlyWaiting {s : State} {n : Word} {us : List (BitVec 34)} (huport : s.uport = dlyWord n :: us) :
    step s = .next (dly n { s with uport := us, rem := 0 }) := by
  rw [step_of_microWaiting huport, runWord_dlyWord]
  simp [takeMicro]

section
variable {s : State} {i : Nat}

/-- Two steps take the words of a mark phase. -/
theorem reaches_markPhase (huport : s.uport = []) (n : Word) :
    Reaches 2 (issuePhase .mark i n (markWords s.cduty n) s) (markPhase i n s) := by
  have hcen : step (issuePhase .mark i n (markWords s.cduty n) s) =
      .next (cen s.cduty (issuePhase .mark i n [dlyWord n] s)) := step_of_cenWaiting rfl
  have hdly : step (cen s.cduty (issuePhase .mark i n [dlyWord n] s)) = .next (markPhase i n s) := by
    rw [step_of_dlyWaiting (us := []) rfl, ← huport]
    rfl
  exact (reaches_of_step hcen).trans (reaches_of_step hdly)

/-- Two steps take the words of a space phase. -/
theorem reaches_spacePhase (huport : s.uport = []) (n : Word) :
    Reaches 2 (issuePhase .space i n (spaceWords n) s) (spacePhase i n s) := by
  have hcdis : step (issuePhase .space i n (spaceWords n) s) =
      .next (cdis (issuePhase .space i n [dlyWord n] s)) := step_of_cdisWaiting rfl
  have hdly : step (cdis (issuePhase .space i n [dlyWord n] s)) = .next (spacePhase i n s) := by
    rw [step_of_dlyWaiting (us := []) rfl, ← huport]
    rfl
  exact (reaches_of_step hcdis).trans (reaches_of_step hdly)

/-! ## The moves between phases (R125 rows 3 to 5) -/

theorem step_of_quiet (h : Quiet s) : step s = advanceSeq s := by
  simp only [step, runNext, h.port, h.uport]

theorem step_of_markDone (h : Quiet s) (hphase : s.phase = .mark) {v : Symbol}
    (hread : symGet s.sym s.idx.toNat = some v) :
    step s = .next (issuePhase .space s.idx.toNat v.space (spaceWords v.space) s) := by
  simp only [step_of_quiet h, advanceSeq, hphase, hread]
  rfl

theorem step_of_spaceDone (h : Quiet s) (hphase : s.phase = .space) (hnext : s.idx.toNat + 1 < s.len.toNat) {v : Symbol}
    (hread : symGet s.sym (s.idx.toNat + 1) = some v) :
    step s = .next (issuePhase .mark (s.idx.toNat + 1) v.mark (markWords s.cduty v.mark) s) := by
  simp only [step_of_quiet h, advanceSeq, hphase, if_pos hnext, hread]
  rfl

theorem step_of_lastSpaceDone (h : Quiet s) (hphase : s.phase = .space) (hlast : s.len.toNat ≤ s.idx.toNat + 1) :
    step s = .next (endSeq s) := by
  simp only [step_of_quiet h, advanceSeq, hphase, if_neg hlast.not_gt]

/-! ## One symbol, and the sequence -/

/-- A symbol's two phases leave alone what the moves after them read. -/
theorem quiet_symbolPhases (h : Quiet s) (v : Symbol) : Quiet (spacePhase i v.space (markPhase i v.mark s)) := by
  rw [symbolPhases]
  exact ⟨h.port, h.uport⟩

/-- Five steps lead from the issue of a symbol's mark to the end of its space. -/
theorem reaches_symbolPhases (h : Quiet s) (hi : i < 2 ^ 32) {v : Symbol} (hread : symGet s.sym i = some v) :
    Reaches 5 (issuePhase .mark i v.mark (markWords s.cduty v.mark) s)
      (spacePhase i v.space (markPhase i v.mark s)) := by
  have hidx : (markPhase i v.mark s).idx.toNat = i := toNat_ofNat_of_lt hi
  have hmark : Quiet (markPhase i v.mark s) := ⟨h.port, h.uport⟩
  have hstep : step (markPhase i v.mark s) =
      .next (issuePhase .space i v.space (spaceWords v.space) (markPhase i v.mark s)) := by
    have hdone := step_of_markDone hmark rfl (v := v) (by rw [hidx]; exact hread)
    rwa [hidx] at hdone
  exact ((reaches_markPhase h.uport v.mark).trans (reaches_of_step hstep)).trans
    (reaches_spacePhase hmark.uport v.space)

end

/-- From the issue of the mark of symbol `i` on, six steps for each symbol that is left run the loop of `SEQ` and end
the transmission. -/
theorem reaches_endSeq (rest : List Symbol) (i : Nat) (v : Symbol) {s : State} (h : Quiet s)
    (hlen : s.len.toNat = i + (v :: rest).length)
    (hread : ∀ k, k < (v :: rest).length → symGet s.sym (i + k) = (v :: rest)[k]?) :
    Reaches (6 * (v :: rest).length) (issuePhase .mark i v.mark (markWords s.cduty v.mark) s)
      (endSeq (seqFrom i (v :: rest) s)) := by
  have hi : i < 2 ^ 32 := by
    have hbound := s.len.isLt
    rw [hlen, List.length_cons] at hbound
    omega
  have hsymbol := reaches_symbolPhases h hi (hread 0 (Nat.succ_pos _))
  have hquiet := quiet_symbolPhases (i := i) h v
  have hphase : (spacePhase i v.space (markPhase i v.mark s)).phase = .space := rfl
  have hidx : (spacePhase i v.space (markPhase i v.mark s)).idx.toNat = i := toNat_ofNat_of_lt hi
  have hlen' : (spacePhase i v.space (markPhase i v.mark s)).len = s.len := by rw [symbolPhases]
  have hsym' : (spacePhase i v.space (markPhase i v.mark s)).sym = s.sym := by rw [symbolPhases]
  cases rest with
  | nil =>
    have hend := step_of_lastSpaceDone hquiet hphase (by rw [hidx, hlen', hlen]; rfl)
    exact hsymbol.trans (reaches_of_step hend)
  | cons w rest =>
    have hnext := step_of_spaceDone hquiet hphase (v := w)
      (by rw [hidx, hlen', hlen]; simp)
      (by rw [hidx, hsym']; exact hread 1 (by simp))
    rw [hidx] at hnext
    have hrest := reaches_endSeq rest (i + 1) w hquiet
      (by rw [hlen', hlen, List.length_cons (a := v)]; omega)
      fun k hk => by
        rw [hsym', Nat.add_right_comm]
        exact hread (k + 1) (Nat.succ_lt_succ hk)
    have hall := (hsymbol.trans (reaches_of_step hnext)).trans hrest
    rwa [Nat.add_comm, ← Nat.mul_succ] at hall

/-- Settles O40: the steps from the issue of the first mark on, read as the big step between entering and leaving the
critical section. -/
theorem smallStepsMakeTheBigStep : Obligations.SmallStepsMakeTheBigStep := by
  intro s S hne hlen hport huport hsym
  obtain ⟨v, rest, rfl⟩ := List.exists_cons_of_ne_nil hne
  have hseq := reaches_endSeq rest 0 v (s := { critEnter s with len := BitVec.ofNat 32 (v :: rest).length })
    ⟨hport, huport⟩ ((toNat_ofNat_of_lt hlen).trans (Nat.zero_add _).symm) fun k hk => by
      rw [Nat.zero_add]
      exact hsym k hk
  rw [startSeq_cons]
  calc Sys2Proof.core.run (6 * (v :: rest).length) _
    _ = .next (endSeq (seqFrom 0 (v :: rest) { critEnter s with len := BitVec.ofNat 32 (v :: rest).length })) :=
      hseq.run
    _ = .next (raise .ok (emit (v :: rest) s)) := rfl
    _ = .next { emitted (v :: rest) s with err := 0 } := by rw [emit_eq_emitted]; rfl

end Sys2Proof.Machine
end

section
/-! PROOFS. The Protocol Session (44_session R132 to R136). SEND and SENDN are one operation with two emissions
(`sendWith`): its answers by what the encoder, INIT and the peripheral say, the closed forms of the two emissions, and
from them what every row SEND.* and SENDN.* does with operands within their widths. -/

namespace Sys2Proof.Machine

/-! ## SEND and SENDN by the encoder's answer (R134, R136) -/

section
variable {p : Params} {sel : FrameSel} {auto : Bool} {out : List Symbol → State → State} {s : State}

theorem sendWith_of_error {e : ResultCode} (h : sendFrame p sel auto s = .error e) :
    sendWith p sel auto out s = failedWith (resultCode e) s := by
  simp only [sendWith, h]
  rfl

theorem sendWith_of_not_init {F : List Symbol} (h : sendFrame p sel auto s = .ok F) (hinit : s.init = false) :
    sendWith p sel auto out s = failedWith 1 s := by
  simp only [sendWith, h, if_pos hinit]
  rfl

/-- On an initialised block the frame is emitted if the peripheral accepts the carrier. -/
theorem sendWith_of_init {F : List Symbol} (h : sendFrame p sel auto s = .ok F) (hinit : s.init = true) :
    sendWith p sel auto out s = if p.hwOk s.draws = true then
        raise .ok (flipToggle sel.proto auto (out F (configureFor p sel.proto (attempt s))))
      else configurationFailed s := by
  simp only [sendWith, h, hinit, reduceCtorEq, if_false]
  rfl

/-- A SEND or SENDN that ends OK has emitted the frame that the encoder answers. -/
theorem sendWith_of_err_eq_zero (h : (sendWith p sel auto out s).err = 0) :
    ∃ F, sendFrame p sel auto s = .ok F ∧ s.init = true ∧ p.hwOk s.draws = true ∧
      sendWith p sel auto out s =
        raise .ok (flipToggle sel.proto auto (out F (configureFor p sel.proto (attempt s)))) := by
  obtain ⟨e, hF, heq⟩ | ⟨_, heq⟩ | ⟨_, _, heq⟩ | hok := sendWith_cases p sel auto out s
  · rw [heq] at h
    obtain rfl | rfl | rfl := encodeFrame_error hF <;> cases h
  · rw [heq] at h
    cases h
  · rw [heq] at h
    cases h
  · exact hok

end

/-! ## The two emissions in closed form -/

/-- The flip of R133 in the terms of the claims. -/
theorem flipToggle_eq_toggled (P : Proto) (auto : Bool) (s : State) : flipToggle P auto s = toggled P auto s := by
  apply State.ext
  case toggleRc5 => exact flipToggle_toggleRc5 P auto s
  case toggleRc6 => exact flipToggle_toggleRc6 P auto s
  all_goals simp [toggled]

theorem sendOne_eq (F : List Symbol) (s : State) : sendOne F s = emitted F (storeFrame F s) :=
  emit_eq_emitted F (storeFrame F s)

/-- SEND from the configuration on (R134 steps 7 to 11). -/
theorem send_eq_sentFrame (P : Proto) (auto : Bool) (F : List Symbol) (s : State) :
    raise .ok (flipToggle P auto (sendOne F (configureFor params P (attempt s)))) = sentFrame P auto F s := by
  rw [flipToggle_eq_toggled, sendOne_eq]
  rfl

/-- What follows a frame that has a symbol has one too: a repeat frame begins with a mark (R91). -/
theorem nextFrame_ne_nil (P : Proto) {F : List Symbol} (hF : F ≠ []) : nextFrame P F ≠ [] := by
  unfold nextFrame orRepeat
  split
  · exact List.cons_ne_nil _ _
  · exact hF

/-- SENDN from the configuration on, with the carrier off before it (R136 steps 8 to 11). -/
theorem sendn_eq_sentCadence (P : Proto) (auto : Bool) (F : List Symbol) {s : State} (hcarrier : s.carrier = false) :
    raise .ok (flipToggle P auto (sendAll params P F (configureFor params P (attempt s)))) =
      sentCadence P auto F (nextFrame P F) s := by
  have hoff : (sendOne F (configureFor params P (attempt s))).carrier = false := by
    rw [sendOne_eq]
    exact ite_eq_right_iff.2 fun _ => hcarrier
  rw [flipToggle_eq_toggled, sendAll, repeatOf_eq_nextFrame, sendRepeats_eq _ _ _ hoff, sendOne_eq]
  by_cases hn : params.rptCount P - 1 = 0
  · simp [sentCadence, cadence, lastFrame, hn, toggled, emitted, storeFrame, configureFor, configure, attempt, raise,
      resultCode, hcarrier]
  · have hFR := nextFrame_ne_nil P (F := F)
    by_cases hF : F = [] <;>
      simp [sentCadence, cadence, lastFrame, hn, hF, hFR, toggled, emitted, storeFrame, configureFor, configure,
        attempt, raise, resultCode, hcarrier]

/-! ## The frame that a SEND or SENDN asks for (R134 steps 2 and 3) -/

/-- The selection with the toggle bit of R134 step 2. -/
abbrev FrameSel.withSendToggle (sel : FrameSel) (auto : Bool) (s : State) : FrameSel :=
  { sel with tgl := sendToggle sel.proto auto sel.tgl s }

/-- The toggle bit of a frame of RC5 or RC6: that of the block when `auto = 1`, else the field `tgl` (R88). -/
theorem sendToggle_rc5 (auto tgl : Bool) (s : State) :
    sendToggle .rc5 auto tgl s = if auto = true then s.toggleRc5 else tgl := by
  cases auto <;> rfl

theorem sendToggle_rc6 (auto tgl : Bool) (s : State) :
    sendToggle .rc6 auto tgl s = if auto = true then s.toggleRc6 else tgl := by
  cases auto <;> rfl

/-- Every frame of a frame rule fits the symbol buffer: `NSYM` is at least 52 (R6). -/
theorem dataFrame_length_le_nsym {sel : FrameSel} (hrule : hasFrameRule sel.proto = true) (a c : Nat) :
    (dataFrame params sel a c).length ≤ params.nsym := by
  have hnsym := params_legal.nsym_ge
  by_cases hrc6 : sel.proto = .rc6
  · have hframe : dataFrame params sel a c = frameRc6 (params.timing .rc6) a c sel.tgl := by simp [dataFrame, hrc6]
    have hlen := frameRc6_length_le (params.timing .rc6) a c sel.tgl
    rw [hframe]
    omega
  · have hlen := dataFrame_length_le_mincap params hrule hrc6 a c
    obtain ⟨_, hmincap⟩ := mincap_bounds params hrule
    omega

/-- The frame of a SEND or SENDN whose operands are within their widths. -/
def sendRowFrame (sel : FrameSel) (auto : Bool) (s : State) : List Symbol :=
  orRepeat sel.proto sel.rpt (dataFrame params (sel.withSendToggle auto s) s.opa.toNat s.opc.toNat)

section
variable {sel : FrameSel} {auto : Bool} {s : State}

/-- The encoder's answer on operands within their widths, `NSYM` being the capacity (R134 step 3). -/
theorem sendFrame_of_fit (henc : hasEnc params sel.proto = true) (h0 : s.opa.toNat < 2 ^ waddr params sel)
    (h1 : s.opc.toNat < 2 ^ wcmd params sel)
    (hlen : (dataFrame params (sel.withSendToggle auto s) s.opa.toNat s.opc.toNat).length ≤ params.nsym) :
    sendFrame params sel auto s =
      if params.nsym < mincap params sel then .error .bufferTooSmall else .ok (sendRowFrame sel auto s) := by
  have hframe : (sendRowFrame sel auto s).length ≤ params.nsym :=
    orRepeat_length_le (le_trans (by decide) params_legal.nsym_ge) hlen
  have hfit := encodeFrame_of_fit (sel := sel.withSendToggle auto s) (cap := params.nsym) henc h0 h1
  rw [frame_eq_orRepeat, if_neg (lt_irrefl _),
    if_neg (c := params.nsym < (orRepeat _ _ _).length) hframe.not_gt] at hfit
  exact hfit

/-- A protocol with a frame rule (R89 to R96, R113 to R115): its minimum capacity is below `NSYM`. -/
theorem sendFrame_of_frameRule (hrule : hasFrameRule sel.proto = true) (h0 : s.opa.toNat < 2 ^ waddr params sel)
    (h1 : s.opc.toNat < 2 ^ wcmd params sel) : sendFrame params sel auto s = .ok (sendRowFrame sel auto s) := by
  obtain ⟨_, hmincap⟩ := mincap_bounds params hrule
  have hnsym := params_legal.nsym_ge
  rw [sendFrame_of_fit (hasEnc_of_hasFrameRule params hrule) h0 h1
    (dataFrame_length_le_nsym (sel := sel.withSendToggle auto s) hrule _ _), if_neg (by omega)]

theorem sendOp_of_frame {F : List Symbol} (hF : sendFrame params sel auto s = .ok F) (hinit : s.init = true) :
    sendOp params sel auto s =
      if params.hwOk s.draws = true then sentFrame sel.proto auto F s else configurationFailed s := by
  rw [sendOp, sendWith_of_init hF hinit, send_eq_sentFrame]

theorem sendnOp_of_frame {F : List Symbol} (hF : sendFrame params sel auto s = .ok F) (hinit : s.init = true)
    (hcarrier : s.carrier = false) :
    sendnOp params sel auto s = if params.hwOk s.draws = true then
      sentCadence sel.proto auto F (nextFrame sel.proto F) s else configurationFailed s := by
  rw [sendnOp, sendWith_of_init hF hinit, sendn_eq_sentCadence _ _ _ hcarrier]

/-! ## A row sends its frame -/

/-- A SEND row with a frame rule, its operands within their widths, on an initialised block. -/
theorem exec_sends_frame (sel : FrameSel) (auto : Bool) {i : Instr} (hi : exec i s = .next (sendOp params sel auto s))
    (hrule : hasFrameRule sel.proto = true) (h0 : s.opa.toNat < 2 ^ waddr params sel)
    (h1 : s.opc.toNat < 2 ^ wcmd params sel) (hinit : s.init = true) :
    exec i s = .next (if params.hwOk s.draws = true then sentFrame sel.proto auto (sendRowFrame sel auto s) s
      else configurationFailed s) := by
  rw [hi, sendOp_of_frame (sendFrame_of_frameRule hrule h0 h1) hinit]

/-- A SENDN row with a frame rule, its operands within their widths, on an initialised block between operations. -/
theorem exec_sends_cadence (sel : FrameSel) (auto : Bool) {i : Instr} (hi : exec i s = .next (sendnOp params sel auto s))
    (hrule : hasFrameRule sel.proto = true) (h0 : s.opa.toNat < 2 ^ waddr params sel)
    (h1 : s.opc.toNat < 2 ^ wcmd params sel) (hinit : s.init = true) (hcarrier : s.carrier = false) :
    exec i s = .next (if params.hwOk s.draws = true then
        sentCadence sel.proto auto (sendRowFrame sel auto s) (nextFrame sel.proto (sendRowFrame sel auto s)) s
      else configurationFailed s) := by
  rw [hi, sendnOp_of_frame (sendFrame_of_frameRule hrule h0 h1) hinit hcarrier]

end

/-- Settles O41: the frame of each row, as for ENCODE; `255 - v` is `not_8(v)` on a byte. -/
theorem sendNecAndSony : Obligations.SendNecAndSony := by
  refine ⟨fun s h0 h1 hinit => ?_, fun s h0 h1 hinit => ?_, fun s rpt h0 h1 hinit => ?_,
    fun s rpt h0 h1 hinit => ?_, fun s rpt h0 h1 hinit => ?_, fun s rpt h0 h1 hinit => ?_, exec_var3 .send⟩
  · rw [← not8_of_lt h0, ← not8_of_lt h1]
    exact exec_sends_frame { proto := .nec } false rfl rfl h0 h1 hinit
  · exact exec_sends_frame { proto := .nec, rpt := true } false rfl rfl h0 h1 hinit
  · rw [← not8_of_lt h1]
    exact exec_sends_frame { proto := .necExt, rpt := rpt } false rfl rfl h0 h1 hinit
  · exact exec_sends_frame { proto := .sony, var := .v12, rpt := rpt } false rfl rfl h0 h1 hinit
  · exact exec_sends_frame { proto := .sony, var := .v15, rpt := rpt } false rfl rfl h0 h1 hinit
  · exact exec_sends_frame { proto := .sony, var := .v20, rpt := rpt } false rfl rfl h0 h1 hinit

/-- Settles O45: the frames of O41, each in its cadence. -/
theorem sendnNecAndSony : Obligations.SendnNecAndSony := by
  refine ⟨fun s h0 h1 hinit hcarrier => ?_, fun s h0 h1 hinit hcarrier => ?_, fun s rpt h0 h1 hinit hcarrier => ?_,
    fun s rpt h0 h1 hinit hcarrier => ?_, fun s rpt h0 h1 hinit hcarrier => ?_,
    fun s rpt h0 h1 hinit hcarrier => ?_, exec_var3 .sendn⟩
  · rw [← not8_of_lt h0, ← not8_of_lt h1]
    exact exec_sends_cadence { proto := .nec } false rfl rfl h0 h1 hinit hcarrier
  · exact exec_sends_cadence { proto := .nec, rpt := true } false rfl rfl h0 h1 hinit hcarrier
  · rw [← not8_of_lt h1]
    exact exec_sends_cadence { proto := .necExt, rpt := rpt } false rfl rfl h0 h1 hinit hcarrier
  · exact exec_sends_cadence { proto := .sony, var := .v12, rpt := rpt } false rfl rfl h0 h1 hinit hcarrier
  · exact exec_sends_cadence { proto := .sony, var := .v15, rpt := rpt } false rfl rfl h0 h1 hinit hcarrier
  · exact exec_sends_cadence { proto := .sony, var := .v20, rpt := rpt } false rfl rfl h0 h1 hinit hcarrier

/-- Settles O42. A command of 32 bits fits any register value; the address of COOLIX has no bits. -/
theorem sendSharpPanasonicKaseikyoCoolix : Obligations.SendSharpPanasonicKaseikyoCoolix := by
  refine ⟨fun s rpt h0 h1 hinit => ?_, fun s rpt h0 hinit => ?_, fun s rpt h0 hinit => ?_,
    fun s rpt h0 h1 hinit => ?_⟩
  · exact exec_sends_frame { proto := .sharp, rpt := rpt } false rfl rfl h0 h1 hinit
  · exact exec_sends_frame { proto := .panasonic, rpt := rpt } false rfl rfl h0 s.opc.isLt hinit
  · exact exec_sends_frame { proto := .kaseikyo, rpt := rpt } false rfl rfl h0 s.opc.isLt hinit
  · have hzero : s.opa.toNat < 2 ^ 0 := by simp [h0]
    exact exec_sends_frame { proto := .coolix, rpt := rpt } false rfl rfl hzero h1 hinit

/-- Settles O46: the frames of O42, each in its cadence. -/
theorem sendnSharpPanasonicKaseikyoCoolix : Obligations.SendnSharpPanasonicKaseikyoCoolix := by
  refine ⟨fun s rpt h0 h1 hinit hcarrier => ?_, fun s rpt h0 hinit hcarrier => ?_,
    fun s rpt h0 hinit hcarrier => ?_, fun s rpt h0 h1 hinit hcarrier => ?_⟩
  · exact exec_sends_cadence { proto := .sharp, rpt := rpt } false rfl rfl h0 h1 hinit hcarrier
  · exact exec_sends_cadence { proto := .panasonic, rpt := rpt } false rfl rfl h0 s.opc.isLt hinit hcarrier
  · exact exec_sends_cadence { proto := .kaseikyo, rpt := rpt } false rfl rfl h0 s.opc.isLt hinit hcarrier
  · have hzero : s.opa.toNat < 2 ^ 0 := by simp [h0]
    exact exec_sends_cadence { proto := .coolix, rpt := rpt } false rfl rfl hzero h1 hinit hcarrier

/-- Settles O43: the toggle bit of the frame is the one of R134 step 2. -/
theorem sendManchesterWithToggle : Obligations.SendManchesterWithToggle := by
  refine ⟨fun s tgl auto rpt h0 h1 hinit => ?_, fun s tgl auto rpt h0 h1 hinit => ?_,
    fun s tgl auto rpt h0 h1 hinit => ?_⟩
  · rw [← sendToggle_rc5]
    exact exec_sends_frame { proto := .rc5, rpt := rpt, tgl := tgl } auto rfl rfl h0 h1 hinit
  · rw [← sendToggle_rc5]
    exact exec_sends_frame { proto := .rc5, ext := true, rpt := rpt, tgl := tgl } auto rfl rfl h0 h1 hinit
  · rw [← sendToggle_rc6]
    exact exec_sends_frame { proto := .rc6, rpt := rpt, tgl := tgl } auto rfl rfl h0 h1 hinit

/-- Settles O47: the frames of O43, each in its cadence; the bit is read once, before the first frame. -/
theorem sendnManchesterWithToggle : Obligations.SendnManchesterWithToggle := by
  refine ⟨fun s tgl auto rpt h0 h1 hinit hcarrier => ?_, fun s tgl auto rpt h0 h1 hinit hcarrier => ?_,
    fun s tgl auto rpt h0 h1 hinit hcarrier => ?_⟩
  · rw [← sendToggle_rc5]
    exact exec_sends_cadence { proto := .rc5, rpt := rpt, tgl := tgl } auto rfl rfl h0 h1 hinit hcarrier
  · rw [← sendToggle_rc5]
    exact exec_sends_cadence { proto := .rc5, ext := true, rpt := rpt, tgl := tgl } auto rfl rfl h0 h1 hinit hcarrier
  · rw [← sendToggle_rc6]
    exact exec_sends_cadence { proto := .rc6, rpt := rpt, tgl := tgl } auto rfl rfl h0 h1 hinit hcarrier

/-! ## Protocols without a frame rule (R97) -/

theorem sendFrame_of_no_encExt {p : Params} {sel : FrameSel} (hrule : hasFrameRule sel.proto = false)
    (hnone : p.encExt sel.proto = none) (auto : Bool) (s : State) :
    sendFrame p sel auto s = .error .unsupportedProtocol :=
  encodeFrame_of_no_encoder (by rw [hasEnc_of_no_frameRule p hrule, hnone]; rfl)

/-- The frame of `ENC_EXT[P]`, on operands within the widths of the registry (R97, R98). -/
theorem sendFrame_of_encExt {P : Proto} {e : EncExt} (hrule : hasFrameRule P = false) (he : params.encExt P = some e)
    {s : State} (h0 : s.opa.toNat < 2 ^ (info params P).addressBits.toNat)
    (h1 : s.opc.toNat < 2 ^ (info params P).commandBits.toNat) (rpt : Bool) :
    sendFrame params { proto := P, rpt := rpt } false s =
      if params.nsym < e.minCap then .error .bufferTooSmall
      else .ok (orRepeat P rpt (e.frame s.opa.toNat s.opc.toNat)) := by
  have henc : hasEnc params P = true := by rw [hasEnc_of_no_frameRule params hrule, he]; rfl
  obtain ⟨hwaddr, hwcmd, hmincap, hframe⟩ := selection_of_encExt hrule he rpt
  rw [← hwaddr] at h0
  rw [← hwcmd] at h1
  rw [← hmincap, ← hframe]
  refine sendFrame_of_fit henc h0 h1 (le_of_eq_of_le (congrArg List.length (hframe _ _)) ?_)
  exact params_legal.encExt P e he _ _

/-- SEND and SENDN by `ENC_EXT[P]`, for an emission with the closed form `sent`. -/
theorem sendWith_of_encExt {P : Proto} {e : EncExt} (hrule : hasFrameRule P = false) (he : params.encExt P = some e)
    {s : State} (h0 : s.opa.toNat < 2 ^ (info params P).addressBits.toNat)
    (h1 : s.opc.toNat < 2 ^ (info params P).commandBits.toNat) (hinit : s.init = true) (rpt : Bool)
    {out : List Symbol → State → State} {sent : List Symbol → State}
    (hout : ∀ F, raise .ok (flipToggle P false (out F (configureFor params P (attempt s)))) = sent F) :
    sendWith params { proto := P, rpt := rpt } false out s =
      if params.nsym < e.minCap then failedWith 3 s
      else if params.hwOk s.draws = true then sent (orRepeat P rpt (e.frame s.opa.toNat s.opc.toNat))
      else configurationFailed s := by
  have hframe := sendFrame_of_encExt hrule he h0 h1 rpt
  by_cases hcap : params.nsym < e.minCap
  · rw [if_pos hcap] at hframe ⊢
    exact sendWith_of_error hframe
  · rw [if_neg hcap] at hframe ⊢
    rw [sendWith_of_init hframe hinit, hout]

/-- Settles O44, by whether ENC_EXT is given. -/
theorem sendWithoutAFrameRule : Obligations.SendWithoutAFrameRule := by
  refine ⟨fun p sel auto s hrule hnone => sendWith_of_error (sendFrame_of_no_encExt hrule hnone auto s),
    fun s rpt q hq h0 h1 hinit => ?_⟩
  have hrow : exec q.1 s = .next (sendOp params { proto := q.2, rpt := rpt } false s) ∧ hasFrameRule q.2 = false := by
    simp only [List.mem_cons, List.not_mem_nil, or_false] at hq
    obtain rfl | rfl | rfl | rfl | rfl | rfl | rfl | rfl | rfl := hq <;> exact ⟨rfl, rfl⟩
  obtain ⟨hexec, hrule⟩ := hrow
  rw [hexec]
  refine congrArg Host.Outcome.next ?_
  cases he : params.encExt q.2 with
  | none => exact sendWith_of_error (sendFrame_of_no_encExt hrule he false s)
  | some e => exact sendWith_of_encExt hrule he h0 h1 hinit rpt fun F => send_eq_sentFrame q.2 false F s

/-- Settles O48, as O44 with the other emission. -/
theorem sendnWithoutAFrameRule : Obligations.SendnWithoutAFrameRule := by
  refine ⟨fun p sel auto s hrule hnone => sendWith_of_error (sendFrame_of_no_encExt hrule hnone auto s),
    fun s rpt q hq h0 h1 hinit hcarrier => ?_⟩
  have hrow : exec q.1 s = .next (sendnOp params { proto := q.2, rpt := rpt } false s) ∧ hasFrameRule q.2 = false := by
    simp only [List.mem_cons, List.not_mem_nil, or_false] at hq
    obtain rfl | rfl | rfl | rfl | rfl | rfl | rfl | rfl | rfl := hq <;> exact ⟨rfl, rfl⟩
  obtain ⟨hexec, hrule⟩ := hrow
  rw [hexec]
  refine congrArg Host.Outcome.next ?_
  cases he : params.encExt q.2 with
  | none => exact sendWith_of_error (sendFrame_of_no_encExt hrule he false s)
  | some e => exact sendWith_of_encExt hrule he h0 h1 hinit rpt fun F => sendn_eq_sentCadence q.2 false F hcarrier

end Sys2Proof.Machine
end

section
/-! PROOFS. What SEND and SENDN raise before any output, RSTTGL, and SEND against the ENCODE and the TRANSMIT that it
stands for (44_session R134 to R137, 60_exceptions R141). -/

namespace Sys2Proof.Machine

/-! ## Before any output (R134 steps 3 and 4, R141) -/

/-- The SEND and SENDN rows are the reserved Sony variants and the rows that take the frame of an ENCODE. -/
theorem var3_or_encodeOf_of_isSend {i : Instr} (h : isSend i = true) (s : State) :
    i = .sendSonyVar3 ∨ i = .sendnSonyVar3 ∨ ∃ j, encodeOf s i = some j := by
  cases i with
  | sendSonyVar3 => exact .inl rfl
  | sendnSonyVar3 => exact .inr (.inl rfl)
  | sendNec | sendNecRpt | sendNecExt | sendSony12 | sendSony15 | sendSony20 | sendRc5 | sendRc5X | sendRc6 | sendSamsung
  | sendPanasonic | sendJvc | sendLg | sendMitsubishi | sendSharp | sendDish | sendAiwa | sendDenon | sendKaseikyo
  | sendWhynter | sendCoolix | sendGeneric | sendnNec | sendnNecRpt | sendnNecExt | sendnSony12 | sendnSony15
  | sendnSony20 | sendnRc5 | sendnRc5X | sendnRc6 | sendnSamsung | sendnPanasonic | sendnJvc | sendnLg
  | sendnMitsubishi | sendnSharp | sendnDish | sendnAiwa | sendnDenon | sendnKaseikyo | sendnWhynter | sendnCoolix
  | sendnGeneric => exact .inr (.inr ⟨_, rfl⟩)
  | _ => simp [isSend, opCode, encode, plainWord, frameWord, cenWord, cdisWord, dlyWord] at h

theorem exists_encodeSel_of_encodeOf {s : State} {i j : Instr} (h : encodeOf s i = some j) :
    ∃ sel, encodeSel j = some sel := by
  unfold encodeOf at h
  split at h <;> cases h <;> exact ⟨_, rfl⟩

/-- A SEND or SENDN is `sendWith` of the selection of its ENCODE, before the toggle bit of R134 step 2 is chosen. -/
theorem exec_eq_sendWith_of_encodeOf {s : State} {i j : Instr} (h : encodeOf s i = some j) :
    ∃ sel auto out, encodeSel j = some (sel.withSendToggle auto s) ∧
      exec i s = .next (sendWith params sel auto out s) := by
  obtain ⟨sel, hsel⟩ := exists_encodeSel_of_encodeOf h
  obtain ⟨sel', auto, hexec | hexec, rfl⟩ := exec_of_encodeOf h hsel
  · exact ⟨sel', auto, _, hsel, hexec s⟩
  · exact ⟨sel', auto, _, hsel, hexec s⟩

/-- The encoder never raises OK or HwFailure (R81). -/
theorem encodeFrame_error_code {p : Params} {sel : FrameSel} {x0 x1 : Word} {cap : Nat} {e : ResultCode}
    (h : encodeFrame p sel x0 x1 cap = .error e) : resultCode e ≠ 0 ∧ resultCode e ≠ 5 := by
  obtain rfl | rfl | rfl := encodeFrame_error h <;> decide

/-- On an uninitialised block the encoder's result is raised, or NotInitialized. -/
theorem sendWith_failedWith_of_not_init (sel : FrameSel) (auto : Bool) (out : List Symbol → State → State) {s : State}
    (hinit : s.init = false) : ∃ e, e ≠ 0 ∧ e ≠ 5 ∧ sendWith params sel auto out s = failedWith e s := by
  cases hF : sendFrame params sel auto s with
  | error e =>
    obtain ⟨h0, h5⟩ := encodeFrame_error_code hF
    exact ⟨resultCode e, h0, h5, sendWith_of_error hF⟩
  | ok F => exact ⟨1, by decide, by decide, sendWith_of_not_init hF hinit⟩

/-- With `NSYM` as its capacity, ENCODE asks for the frame that SEND and SENDN ask for (R134 step 3). -/
theorem encodeFrame_of_opcap_nsym {p : Params} (hnsym : p.nsym < 2 ^ 32) (sel : FrameSel) (auto : Bool) (s : State) :
    encodeFrame p (sel.withSendToggle auto s) s.opa s.opc (BitVec.ofNat 32 p.nsym).toNat = sendFrame p sel auto s := by
  rw [toNat_ofNat_of_lt hnsym]
  rfl

/-- Settles O49, by the answer of the encoder, which the ENCODE gets too. -/
theorem sendRaisesBeforeAnyOutput : Obligations.SendRaisesBeforeAnyOutput := by
  refine ⟨fun i s hi hinit => ?_, fun s h0 h1 hinit => ?_, fun i j s hj => ?_⟩
  · obtain rfl | rfl | ⟨j, hj⟩ := var3_or_encodeOf_of_isSend hi s
    · exact ⟨2, by decide, by decide, exec_var3 .send s⟩
    · exact ⟨2, by decide, by decide, exec_var3 .sendn s⟩
    · obtain ⟨sel, auto, out, _, hexec⟩ := exec_eq_sendWith_of_encodeOf hj
      obtain ⟨e, h0, h5, heq⟩ := sendWith_failedWith_of_not_init sel auto out hinit
      refine ⟨e, h0, h5, ?_⟩
      rw [if_neg (by rintro rfl; cases hj), if_neg (by rintro rfl; cases hj), hexec, heq]
  · have hframe := sendFrame_of_frameRule (sel := { proto := .nec }) (auto := false) rfl h0 h1
    exact congrArg Host.Outcome.next (sendWith_of_not_init hframe hinit)
  · obtain ⟨sel, auto, out, hsel, hexec⟩ := exec_eq_sendWith_of_encodeOf hj
    have hanswer := encodeFrame_of_opcap_nsym params_legal.nsym_lt sel auto s
    refine ⟨_, exec_of_encodeSel hsel _, fun h => ?_⟩
    rw [hexec]
    cases hF : sendFrame params sel auto s with
    | error e =>
      obtain ⟨herr, _⟩ := encodeFrame_error_code hF
      rw [encodeOp_of_error (hanswer.trans hF), sendWith_of_error hF]
      exact congrArg (fun e => Host.Outcome.next (failedWith e s)) (if_pos herr).symm
    | ok F =>
      rw [encodeOp_of_ok (hanswer.trans hF)] at h ⊢
      rw [sendWith_of_not_init hF (h.resolve_left (not_not.2 rfl))]
      rfl

/-! ## RSTTGL (R135) -/

theorem runWord_rsttgl {w : BitVec 32} {i : Instr} (hop : cwOp w = 7) (hres : cwReserved w = 0)
    (hdecode : decodeRsttgl w = .ok i) (s : State) : runWord (.cw w) s = exec i s :=
  runWord_of_decode_ok (by rw [decode_rsttgl hop, checkReserved_of_zero hres, hdecode]) s

/-- Settles O50: the word by its reserved bits, then by its protocol. -/
theorem rsttglClearsOneToggleBit : Obligations.RsttglClearsOneToggleBit := by
  refine ⟨fun s => ⟨rfl, rfl⟩, fun s w rest huport hphase hport hop => ?_⟩
  rw [step_of_command huport hphase hport]
  split_ifs with hres hrc5 hrc6
  · exact runWord_reservedBits_no_frame (by rw [hop]; decide) hres _
  · exact runWord_rsttgl hop (not_not.1 hres) (by rw [decodeRsttgl, hrc5]; rfl) _
  · exact runWord_rsttgl hop (not_not.1 hres) (by rw [decodeRsttgl, hrc6]; rfl) _
  · exact runWord_noToggleBit hop (not_not.1 hres) hrc5 hrc6 _

/-! ## SEND against ENCODE and TRANSMIT (R68, R134) -/

/-- A SEND that ends OK, in closed form: its frame stored and emitted, then the flip. -/
theorem sendOp_of_err_eq_zero {p : Params} {sel : FrameSel} {auto : Bool} {s : State}
    (h : (sendOp p sel auto s).err = 0) :
    ∃ F, sendFrame p sel auto s = .ok F ∧ s.init = true ∧ p.hwOk s.draws = true ∧ sendOp p sel auto s =
      raise .ok (toggled sel.proto auto (emitted F (storeFrame F (configureFor p sel.proto (attempt s))))) := by
  obtain ⟨F, hF, hinit, hhw, heq⟩ := sendWith_of_err_eq_zero h
  exact ⟨F, hF, hinit, hhw, by rw [sendOp, heq, sendOne_eq, flipToggle_eq_toggled]⟩

/-- The frame of a SEND fits the symbol buffer (R81 step 10). -/
theorem sendFrame_length_le {p : Params} {sel : FrameSel} {auto : Bool} {s : State} {F : List Symbol}
    (h : sendFrame p sel auto s = .ok F) : F.length ≤ p.nsym := by
  obtain ⟨_, _, hlen, _⟩ := encodeFrame_ok h
  exact hlen

/-- The operands of the TRANSMIT that follows an ENCODE: all its symbols, with the carrier of the catalog (R68). -/
def forTransmit (p : Params) (P : Proto) (s : State) : State :=
  { s with
    oplen := s.res0
    opfreq := (p.timing P).carrierFreqHz
    opduty := (p.timing P).dutyCyclePercent.setWidth 32 }

/-- A duty cycle of the catalog survives the way through the 32-bit operand register (log 25). -/
theorem setWidth_setWidth_duty (d : Duty) : (d.setWidth 32).setWidth 7 = d :=
  BitVec.setWidth_setWidth_of_le d (by decide)

/-- The TRANSMIT of a frame just stored reads it back and emits it. -/
theorem transmitOp_of_encoded {p : Params} (hp : ParamsLegal p) (P : Proto) {F : List Symbol} (hF : F.length ≤ p.nsym)
    {s : State} (hwf : Memory.wf s.sym = true) (hinit : s.init = true) (hhw : p.hwOk s.draws = true) :
    transmitOp p (forTransmit p P (encoded F s)) =
      .next (raise .ok (emitted F (configureFor p P (attempt (forTransmit p P (encoded F s)))))) := by
  have hlen : (encoded F s).res0.toNat = F.length := toNat_ofNat_of_lt (hF.trans_lt hp.nsym_lt)
  have hready : TransmitReady p (forTransmit p P (encoded F s)) :=
    { freq := (hp.timing P).freq
      duty := by simpa [forTransmit] using (Nat.mod_le _ _).trans (hp.timing P).duty
      len := hlen.le.trans hF
      init := hinit }
  have hread : memRead (forTransmit p P (encoded F s)).sym 0 (encoded F s).res0.toNat = .ok F :=
    hlen ▸ memRead_memWrite F hwf
  rw [transmitOp_of_memRead_ok hready hhw hread, configureFor, ← setWidth_setWidth_duty (p.timing P).dutyCyclePercent]
  rfl

/-- Settles O51: the ENCODE stores the frame of the SEND, and the TRANSMIT emits it. -/
theorem sendIsEncodeThenTransmit : Obligations.SendIsEncodeThenTransmit := by
  intro p sel auto s hp hwf herr s1
  obtain ⟨F, hF, hinit, hhw, hsend⟩ := sendOp_of_err_eq_zero herr
  have hs1 : s1 = encoded F { s with opcap := BitVec.ofNat 32 p.nsym } :=
    encodeOp_of_ok ((encodeFrame_of_opcap_nsym hp.nsym_lt sel auto s).trans hF)
  rw [hs1]
  refine ⟨rfl, _, transmitOp_of_encoded hp sel.proto (sendFrame_length_le hF) hwf hinit hhw, rfl, ?_⟩
  rw [hsend, flipToggle_eq_toggled]
  rfl

/-! ## Two sends of the same code (R137) -/

/-- What a SEND with `auto = 1` that ends OK leaves in the buffer, the operands and the toggle bits: its frame is that
of the toggle bit before it, which is flipped. -/
structure AutoSent (p : Params) (sel : FrameSel) (s t : State) : Prop where
  frame : memRead t.sym 0 t.symLen.toNat = .ok (frame p { sel with tgl := toggleOf sel.proto s }
    (mask (waddr p sel) s.opa.toNat) (mask (wcmd p sel) s.opc.toNat))
  symWf : Memory.wf t.sym = true
  opa : t.opa = s.opa
  opc : t.opc = s.opc
  toggleRc5 : t.toggleRc5 = if sel.proto = .rc5 then !s.toggleRc5 else s.toggleRc5
  toggleRc6 : t.toggleRc6 = if sel.proto = .rc6 then !s.toggleRc6 else s.toggleRc6

theorem autoSent_sendOp {p : Params} {sel : FrameSel} {s : State} (hp : ParamsLegal p) (hwf : Memory.wf s.sym = true)
    (htoggle : hasToggle sel.proto = true) (herr : (sendOp p sel true s).err = 0) :
    AutoSent p sel s (sendOp p sel true s) := by
  obtain ⟨F, hF, _, _, hsend⟩ := sendOp_of_err_eq_zero herr
  obtain ⟨_, hframe, _, _⟩ := encodeFrame_ok hF
  have hlen : (BitVec.ofNat 32 F.length).toNat = F.length :=
    toNat_ofNat_of_lt ((sendFrame_length_le hF).trans_lt hp.nsym_lt)
  have htgl : sendToggle sel.proto true sel.tgl s = toggleOf sel.proto s := if_pos htoggle
  have hsym : (sendOp p sel true s).sym = memWrite s.sym 0 F := by rw [hsend]; rfl
  have hsymLen : (sendOp p sel true s).symLen.toNat = F.length := by rw [hsend]; exact hlen
  rw [htgl] at hframe
  constructor
  case frame =>
    rw [hsym, hsymLen, memRead_memWrite F hwf, hframe]
    rfl
  case symWf => rw [hsym]; exact wf_memWrite F hwf 0
  all_goals rw [hsend]; simp [toggled, emitted, configureFor]

/-- Flipping the bit of `P` alone flips `TOGGLE[P]`. -/
theorem toggleOf_flipped {P : Proto} (h : hasToggle P = true) {s t : State}
    (h5 : t.toggleRc5 = if P = .rc5 then !s.toggleRc5 else s.toggleRc5)
    (h6 : t.toggleRc6 = if P = .rc6 then !s.toggleRc6 else s.toggleRc6) : toggleOf P t = !toggleOf P s := by
  cases P with
  | rc5 => exact h5
  | rc6 => exact h6
  | _ => cases h

/-- Settles O52: the second send starts from the flipped bit, and flips it back. -/
theorem twoAutoSendsDifferInTheToggleBit : Obligations.TwoAutoSendsDifferInTheToggleBit := by
  intro p sel s hp hwf htoggle herr herr' s1 s2 F
  obtain ⟨hread, hwf1, hopa, hopc, h5, h6⟩ := autoSent_sendOp hp hwf htoggle herr
  obtain ⟨hread', _, _, _, h5', h6'⟩ := autoSent_sendOp hp hwf1 htoggle herr'
  have hflip : toggleOf sel.proto s1 = !toggleOf sel.proto s := toggleOf_flipped htoggle h5 h6
  refine ⟨hread, ?_, hflip, ?_, ?_⟩
  · rw [hopa, hopc] at hread'
    exact hflip ▸ hread'
  · rw [h5', h5]
    split_ifs <;> simp
  · rw [h6', h6]
    split_ifs <;> simp

end Sys2Proof.Machine
end

section
/-! PROOFS. What every instruction makes of the interrupt enable and of the toggle bits (44_session R133, R138). -/

namespace Sys2Proof.Machine

/-! ## The interrupt enable (R138) -/

theorem Update.ie {s t : State} (h : Update s t) : t.ie = s.ie := by
  cases h with
  | raise | result | attempt | hwFailed | configure | storeFrame => rfl
  | setToggle P v => exact setToggle_ie P v s
  | gap n => rfl
  | emit S => rw [emit_eq_emitted]; rfl

theorem ie_of_updates {s t : State} (h : Updates s t) : t.ie = s.ie := by
  induction h with
  | refl => rfl
  | tail _ hupdate ih => exact hupdate.ie.trans ih

theorem initOp_ie (p : Params) (s : State) : (initOp p s).ie = s.ie := by
  obtain ⟨_, heq⟩ | ⟨_, _, _, heq⟩ | ⟨_, _, _, heq⟩ := initOp_cases p s <;> rw [heq] <;> rfl

/-- Settles O53: no update of a chain leaves IE changed, nor does INIT or a micro-operation. -/
theorem interruptEnableIsPreserved : Obligations.InterruptEnableIsPreserved := by
  intro i s t h
  by_cases hcommand : isCommand i = true
  · by_cases hi : i = .init
    · subst hi
      cases h
      exact initOp_ie params s
    · exact ie_of_updates (updates_of_command hcommand hi h)
  · cases i with
    | cen | cdis | dly => cases h; rfl
    | _ => exact absurd rfl hcommand

/-! ## The toggle bits (R133) -/

/-- The two toggle bits of `t` are those of `s`. -/
def TogglesKept (s t : State) : Prop := t.toggleRc5 = s.toggleRc5 ∧ t.toggleRc6 = s.toggleRc6

/-- The toggle bits of `t` are those of `s`, but for that of `flips`, which is flipped when the result is OK. -/
def TogglesFlipped (flips : Option Proto) (s t : State) : Prop :=
  t.toggleRc5 = (if flips = some .rc5 ∧ t.err = 0 then !s.toggleRc5 else s.toggleRc5) ∧
    t.toggleRc6 = (if flips = some .rc6 ∧ t.err = 0 then !s.toggleRc6 else s.toggleRc6)

theorem TogglesKept.refl (s : State) : TogglesKept s s := ⟨rfl, rfl⟩

theorem TogglesKept.trans {s t u : State} (hst : TogglesKept s t) (htu : TogglesKept t u) : TogglesKept s u :=
  ⟨htu.1.trans hst.1, htu.2.trans hst.2⟩

theorem TogglesKept.flipped_none {s t : State} (h : TogglesKept s t) : TogglesFlipped none s t := by
  simpa [TogglesFlipped, TogglesKept] using h

/-- A rejected operation flips nothing, whichever protocol it was for. -/
theorem TogglesKept.flipped_of_err {s t : State} (h : TogglesKept s t) (herr : t.err ≠ 0) (flips : Option Proto) :
    TogglesFlipped flips s t := by
  obtain ⟨h5, h6⟩ := h
  exact ⟨h5.trans (if_neg fun hok => herr hok.2).symm, h6.trans (if_neg fun hok => herr hok.2).symm⟩

theorem togglesKept_sendOne (F : List Symbol) (s : State) : TogglesKept s (sendOne F s) := by
  rw [sendOne_eq]
  exact ⟨rfl, rfl⟩

theorem togglesKept_sendRepeats (gap : Word) (FR : List Symbol) (n : Nat) (s : State) :
    TogglesKept s (sendRepeats gap FR n s) := by
  induction n generalizing s with
  | zero => exact .refl s
  | succ n ih =>
    have hgap : TogglesKept s (dly gap s) := ⟨rfl, rfl⟩
    exact (hgap.trans (togglesKept_sendOne FR _)).trans (ih _)

theorem togglesKept_sendAll (p : Params) (P : Proto) (F : List Symbol) (s : State) :
    TogglesKept s (sendAll p P F s) :=
  (togglesKept_sendOne F s).trans (togglesKept_sendRepeats _ _ _ _)

/-- The protocol of a SEND or SENDN whose toggle bit its `auto` asks to flip. -/
def autoFlip (P : Proto) (auto : Bool) : Option Proto := if auto = true then some P else none

theorem autoFlip_eq_some_iff (P Q : Proto) (auto : Bool) : autoFlip P auto = some Q ↔ P = Q ∧ auto = true := by
  cases auto <;> simp [autoFlip]

/-- The flip at the end of a successful SEND or SENDN (R134 step 10). -/
theorem togglesFlipped_flipToggle (P : Proto) (auto : Bool) {s u : State} (h : TogglesKept s u) :
    TogglesFlipped (autoFlip P auto) s (raise .ok (flipToggle P auto u)) := by
  obtain ⟨h5, h6⟩ := h
  simp [TogglesFlipped, autoFlip_eq_some_iff, raise, resultCode, flipToggle_toggleRc5, flipToggle_toggleRc6, h5, h6]

theorem togglesFlipped_sendWith (sel : FrameSel) (auto : Bool) {out : List Symbol → State → State}
    (hout : ∀ F s, TogglesKept s (out F s)) (s : State) :
    TogglesFlipped (autoFlip sel.proto auto) s (sendWith params sel auto out s) := by
  cases hF : sendFrame params sel auto s with
  | error e =>
    rw [sendWith_of_error hF]
    exact TogglesKept.flipped_of_err ⟨rfl, rfl⟩ (encodeFrame_error_code hF).1 _
  | ok F =>
    cases hinit : s.init with
    | false =>
      rw [sendWith_of_not_init hF hinit]
      exact TogglesKept.flipped_of_err ⟨rfl, rfl⟩ (show (1 : Byte) ≠ 0 by decide) _
    | true =>
      rw [sendWith_of_init hF hinit]
      split
      · exact togglesFlipped_flipToggle sel.proto auto (hout F (configureFor params sel.proto (attempt s)))
      · exact TogglesKept.flipped_of_err ⟨rfl, rfl⟩ (show (5 : Byte) ≠ 0 by decide) _

theorem togglesFlipped_sendOp (sel : FrameSel) (auto : Bool) (s : State) :
    TogglesFlipped (autoFlip sel.proto auto) s (sendOp params sel auto s) :=
  togglesFlipped_sendWith sel auto togglesKept_sendOne s

theorem togglesFlipped_sendnOp (sel : FrameSel) (auto : Bool) (s : State) :
    TogglesFlipped (autoFlip sel.proto auto) s (sendnOp params sel auto s) :=
  togglesFlipped_sendWith sel auto (togglesKept_sendAll params sel.proto) s

theorem togglesKept_initOp (s : State) : TogglesKept s (initOp params s) := by
  obtain ⟨_, heq⟩ | ⟨_, _, _, heq⟩ | ⟨_, _, _, heq⟩ := initOp_cases params s <;> rw [heq] <;> exact ⟨rfl, rfl⟩

theorem togglesKept_getinfoOp (code : BitVec 5) (s : State) : TogglesKept s (getinfoOp params code s) := by
  unfold getinfoOp
  split <;> exact ⟨rfl, rfl⟩

theorem togglesKept_encodeOp (sel : FrameSel) (s : State) : TogglesKept s (encodeOp params sel s) := by
  obtain ⟨e, _, heq⟩ | ⟨F, _, heq⟩ := encodeOp_cases params sel s <;> rw [heq] <;> exact ⟨rfl, rfl⟩

theorem togglesKept_transmitOp {s t : State} (h : transmitOp params s = .next t) : TogglesKept s t := by
  obtain rfl | ⟨_, rfl⟩ | ⟨_, _, rfl⟩ | ⟨S, _, _, _, _, _, _, rfl⟩ := transmitOp_cases h
  · exact ⟨rfl, rfl⟩
  · exact ⟨rfl, rfl⟩
  · exact ⟨rfl, rfl⟩
  · rw [emit_eq_emitted]
    exact ⟨rfl, rfl⟩

/-- Every operation but RSTTGL: only a SEND or SENDN that ends OK flips, and only the bit of `autoProto`. -/
theorem togglesFlipped_of_command {i : Instr} {s t : State} (hcommand : isCommand i = true) (hrc5 : i ≠ .rsttglRc5)
    (hrc6 : i ≠ .rsttglRc6) (h : exec i s = .next t) : TogglesFlipped (autoProto i) s t := by
  cases i with
  | rsttglRc5 => exact absurd rfl hrc5
  | rsttglRc6 => exact absurd rfl hrc6
  | cen | cdis | dly => cases hcommand
  | init => cases h; exact (togglesKept_initOp s).flipped_none
  | getinfo code => cases h; exact (togglesKept_getinfoOp code s).flipped_none
  | transmit => exact (togglesKept_transmitOp h).flipped_none
  | encodeNec | encodeNecRpt | encodeNecExt | encodeSony12 | encodeSony15 | encodeSony20 | encodeRc5 | encodeRc5X
  | encodeRc6 | encodeSamsung | encodePanasonic | encodeJvc | encodeLg | encodeMitsubishi | encodeSharp | encodeDish
  | encodeAiwa | encodeDenon | encodeKaseikyo | encodeWhynter | encodeCoolix | encodeGeneric =>
    cases h
    exact (togglesKept_encodeOp _ s).flipped_none
  | sendRc5 _ auto | sendRc5X _ auto | sendRc6 _ auto =>
    cases h
    cases auto <;> exact togglesFlipped_sendOp _ _ s
  | sendNec | sendNecRpt | sendNecExt | sendSony12 | sendSony15 | sendSony20 | sendSamsung | sendPanasonic | sendJvc
  | sendLg | sendMitsubishi | sendSharp | sendDish | sendAiwa | sendDenon | sendKaseikyo | sendWhynter | sendCoolix
  | sendGeneric =>
    cases h
    exact togglesFlipped_sendOp _ false s
  | sendnRc5 _ auto | sendnRc5X _ auto | sendnRc6 _ auto =>
    cases h
    cases auto <;> exact togglesFlipped_sendnOp _ _ s
  | sendnNec | sendnNecRpt | sendnNecExt | sendnSony12 | sendnSony15 | sendnSony20 | sendnSamsung | sendnPanasonic
  | sendnJvc | sendnLg | sendnMitsubishi | sendnSharp | sendnDish | sendnAiwa | sendnDenon | sendnKaseikyo
  | sendnWhynter | sendnCoolix | sendnGeneric =>
    cases h
    exact togglesFlipped_sendnOp _ false s
  | fromname | encodeSonyVar3 | sendSonyVar3 | sendnSonyVar3 | illegalOp0 | illegalOp9 | illegalOp10 | illegalOp11
  | illegalOp12 | illegalOp13 | illegalOp14 | illegalOp15 =>
    cases h
    exact TogglesKept.flipped_none ⟨rfl, rfl⟩

/-- Settles O57: RSTTGL by its two rows, every other operation by what it flips. -/
theorem toggleBitsChangeOnlyAsStated : Obligations.ToggleBitsChangeOnlyAsStated := by
  intro i s t hcommand h
  by_cases hrc5 : i = .rsttglRc5
  · subst hrc5
    cases h
    exact ⟨rfl, rfl⟩
  · by_cases hrc6 : i = .rsttglRc6
    · subst hrc6
      cases h
      exact ⟨rfl, rfl⟩
    · rw [if_neg hrc5, if_neg hrc6]
      exact togglesFlipped_of_command hcommand hrc5 hrc6 h

end Sys2Proof.Machine
end

section
/-! PROOFS. What a failed operation leaves behind (60_exceptions R142, R143): whichever operation raises a result, the
next state is one of the two forms of `Failure`, and neither has emitted, stored or flipped anything. -/

namespace Sys2Proof.Machine

/-! ## The forms of a failure -/

/-- The states in which an operation that raises a result can leave `s`: rejected by its checks, or by the peripheral
after one configuration attempt; `RES0` is as before or 0, and a failed INIT leaves the carrier off. -/
inductive Failure (s : State) : State → Prop
  | rejected {e : Byte} (he : e ≠ 5) {v : Word} (hv : v = s.res0 ∨ v = 0) : Failure s { s with err := e, res0 := v }
  | hardware (c : Bool) {v : Word} (hv : v = s.res0 ∨ v = 0) :
      Failure s { s with
        draws := s.draws + 1, init := false, fault := true, carrier := c, res0 := v, err := 5 }

theorem failure_raise {e : ResultCode} (he : resultCode e ≠ 5) (s : State) : Failure s (raise e s) :=
  .rejected he (.inl rfl)

theorem failure_raiseNoFrame {e : ResultCode} (he : resultCode e ≠ 5) (s : State) : Failure s (raiseNoFrame e s) :=
  .rejected he (.inr rfl)

theorem failure_raiseIllegal (op : BitVec 4) (k : IllegalFrame) {e : ResultCode} (he : resultCode e ≠ 5) (s : State) :
    Failure s (raiseIllegal params op k e s) := by
  obtain heq | ⟨_, heq⟩ := raiseIllegal_cases params op k e s <;> rw [heq]
  · exact failure_raise he s
  · exact failure_raiseNoFrame he s

/-! ## How each operation fails -/

theorem failure_initOp {s : State} (herr : (initOp params s).err ≠ 0) : Failure s (initOp params s) := by
  obtain ⟨_, heq⟩ | ⟨_, _, _, heq⟩ | ⟨_, _, _, heq⟩ := initOp_cases params s <;> rw [heq] at herr ⊢
  · exact failure_raise (by decide) s
  · exact absurd rfl herr
  · exact .hardware false (.inl rfl)

theorem failure_getinfoOp {code : BitVec 5} {s : State} (herr : (getinfoOp params code s).err ≠ 0) :
    Failure s (getinfoOp params code s) := by
  unfold getinfoOp at herr ⊢
  split at herr
  · exact failure_raise (by decide) s
  · exact absurd rfl herr

theorem failure_encodeOp {sel : FrameSel} {s : State} (herr : (encodeOp params sel s).err ≠ 0) :
    Failure s (encodeOp params sel s) := by
  obtain ⟨e, hanswer, heq⟩ | ⟨F, _, heq⟩ := encodeOp_cases params sel s <;> rw [heq] at herr ⊢
  · exact failure_raiseNoFrame (encodeFrame_error_code hanswer).2 s
  · exact absurd rfl herr

theorem failure_transmitOp {s t : State} (h : transmitOp params s = .next t) (herr : t.err ≠ 0) : Failure s t := by
  obtain rfl | ⟨_, rfl⟩ | ⟨_, _, rfl⟩ | ⟨S, _, _, _, _, _, _, rfl⟩ := transmitOp_cases h
  · exact failure_raise (by decide) s
  · exact failure_raise (by decide) s
  · exact .hardware s.carrier (.inl rfl)
  · exact absurd rfl herr

/-- SEND and SENDN, whatever they would emit: a result is raised before the first pulse (R141). -/
theorem failure_sendWith {sel : FrameSel} {auto : Bool} {out : List Symbol → State → State} {s : State}
    (herr : (sendWith params sel auto out s).err ≠ 0) : Failure s (sendWith params sel auto out s) := by
  obtain ⟨e, hanswer, heq⟩ | ⟨_, heq⟩ | ⟨_, _, heq⟩ | ⟨F, _, _, _, heq⟩ := sendWith_cases params sel auto out s <;>
    rw [heq] at herr ⊢
  · exact failure_raiseNoFrame (encodeFrame_error_code hanswer).2 s
  · exact failure_raiseNoFrame (by decide) s
  · exact .hardware s.carrier (.inr rfl)
  · exact absurd rfl herr

/-- Every operation at the command port that raises a result: the rows that select a frame, those that take the frame
of an ENCODE, and the others one by one. -/
theorem failure_of_command {i : Instr} {s t : State} (hcommand : isCommand i = true) (h : exec i s = .next t)
    (herr : t.err ≠ 0) : Failure s t := by
  cases hsel : encodeSel i with
  | some sel =>
    rw [exec_of_encodeSel hsel] at h
    cases h
    exact failure_encodeOp herr
  | none =>
    cases hsend : encodeOf s i with
    | some j =>
      obtain ⟨sel, auto, out, _, hexec⟩ := exec_eq_sendWith_of_encodeOf hsend
      rw [hexec] at h
      cases h
      exact failure_sendWith herr
    | none =>
      cases i with
      | init => cases h; exact failure_initOp herr
      | getinfo code => cases h; exact failure_getinfoOp herr
      | transmit => exact failure_transmitOp h herr
      | fromname | rsttglRc5 | rsttglRc6 => cases h; exact absurd rfl herr
      | encodeSonyVar3 | sendSonyVar3 | sendnSonyVar3 => cases h; exact failure_raiseIllegal _ _ (by decide) s
      | illegalOp0 | illegalOp9 | illegalOp10 | illegalOp11 | illegalOp12 | illegalOp13 | illegalOp14 | illegalOp15 =>
        cases h
        exact failure_raise (by decide) s
      | cen | cdis | dly => cases hcommand
      | _ => exact nomatch hsel, hsend

/-- Settles O56: neither form of a failure writes what the statement keeps, and only the peripheral costs INIT. -/
theorem failedOperationsHaveNoEffect : Obligations.FailedOperationsHaveNoEffect := by
  intro i s t hcommand h herr
  cases failure_of_command hcommand h herr with
  | rejected he hv =>
    rw [if_neg he]
    exact ⟨rfl, rfl, rfl, rfl, rfl, rfl, rfl, rfl, rfl, rfl, rfl, rfl, rfl, rfl, hv, rfl, rfl⟩
  | hardware c hv =>
    rw [if_pos rfl]
    exact ⟨rfl, rfl, rfl, rfl, rfl, rfl, rfl, rfl, rfl, rfl, rfl, rfl, rfl, rfl, hv, rfl, rfl⟩

end Sys2Proof.Machine
end

section
/-! PROOFS. The family of 70_reset: the reset event, between two operations and in the middle of a transmission. -/

namespace Sys2Proof.Machine

/-- What the reset event leaves of the state that its step has taken it from: the mask the host has chosen, the count of
attempts and the rest of the schedule. -/
theorem resetEvent_takeAction (rest : List HostAction) (s : State) :
    resetEvent (takeAction rest s) =
      { State.reset with ie := if s.phase = .idle then s.ie else s.iesave, draws := s.draws, port := rest } :=
  rfl

/-- The reset event is the one action that a transmission in progress does not hold off (70_reset R154); companion of
`step_of_overlappedAction`. -/
theorem step_of_resetEvent {s : State} {rest : List HostAction} (huport : s.uport = [])
    (hport : s.port = .reset :: rest) : step s = .next (resetEvent (takeAction rest s)) := by
  simp only [step, runNext, huport, hport, or_true, if_true, runAction]

/-- Settles O11: the event is taken in every phase, and the phase decides only whose mask it leaves. -/
theorem resetEventRestartsTheBlock : Obligations.ResetEventRestartsTheBlock := by
  intro s rest huport hport
  calc
    step s = .next (resetEvent (takeAction rest s)) := step_of_resetEvent huport hport
    _ = _ := congrArg _ (resetEvent_takeAction rest s)

end Sys2Proof.Machine
end
